-- ==== Sys2Proof/Word.lean ====
section
/-! DEFINITION. The word types of the machine (00_scope.md R9): a `u8` and a `u16`. Every helper over them
(halves, concatenation, sign extension) stands in Decode.lean. -/
namespace Sys2Proof

/-- `u8` of 00_scope.md R9. -/
abbrev Byte := BitVec 8

/-- `u16` of 00_scope.md R9: SP, PC, a register pair and a bus address. -/
abbrev Word := BitVec 16

end Sys2Proof
end

