-- ==== Sys2Proof/Syntax.lean ====
section
/-! DEFINITION. The instructions as syntax: one constructor for each of the 512 rows of spec/opcode_table.json
(30_encoding.md R92, R100, R101), with the immediate operand where the row's format has one (R91, R98), and the
names of the operand selectors. -/
namespace Sys2Proof

/-- A 3-bit field of an opcode (`y` or `z` of 30_encoding.md R91) as one of its eight values: also the bit
number of BIT, RES and SET (42 R203) and the restart number of RST (43 R230). -/
inductive Octal where
  | n0 | n1 | n2 | n3 | n4 | n5 | n6 | n7
deriving DecidableEq, Repr

/-- The 8-bit operand a register code selects, in code order (10_state.md R24): code 6 is memory at HL. -/
inductive R8 where
  | b | c | d | e | h | l | memHl | a
deriving DecidableEq, Repr

/-- `RP(p)` of 10_state.md R27, in code order. -/
inductive Rp where
  | bc | de | hl | sp
deriving DecidableEq, Repr

/-- `RP2(p)` of 10_state.md R27, in code order: the pairs of PUSH and POP. -/
inductive Rp2 where
  | bc | de | hl | af
deriving DecidableEq, Repr

/-- The condition codes of 43_control_flow.md R220, in code order. -/
inductive Cond where
  | nz | z | nc | c
deriving DecidableEq, Repr

/-- The eight operations of the ALU group, in the order of field `y` (40_alu8.md R130). -/
inductive Alu where
  | add | adc | sub | sbc | and | xor | or | cp
deriving DecidableEq, Repr

/-- The eight operation kinds of the secondary table's first quadrant, in the order of field `y`
(30_encoding.md R101). -/
inductive Rot where
  | rlc | rrc | rl | rr | sla | sra | swap | srl
deriving DecidableEq, Repr

/-- The instructions, one constructor per row of spec/opcode_table.json, the rows with an operand first
(Lean's compiler wants constructors with fields among the first), each part in the table's order. A comment gives
the row's first byte (secondary rows: the byte after 0xCB), the spelling of 30_encoding.md R107 and the rule. -/
inductive Instr where
  /-- 01: `LD BC,d16`, R310 -/
  | ldBcD16 (d16 : Word)
  /-- 06: `LD B,d8`, R271 -/
  | ldBD8 (d8 : Byte)
  /-- 08: `LD (a16),SP`, R311 -/
  | ldMemA16Sp (a16 : Word)
  /-- 0E: `LD C,d8`, R271 -/
  | ldCD8 (d8 : Byte)
  /-- 10: `STOP`, R254 -/
  | stop (ignored : Byte)
  /-- 11: `LD DE,d16`, R310 -/
  | ldDeD16 (d16 : Word)
  /-- 16: `LD D,d8`, R271 -/
  | ldDD8 (d8 : Byte)
  /-- 18: `JR e8`, R224 -/
  | jrE8 (e8 : Byte)
  /-- 1E: `LD E,d8`, R271 -/
  | ldED8 (d8 : Byte)
  /-- 20: `JR NZ,e8`, R225 -/
  | jrNzE8 (e8 : Byte)
  /-- 21: `LD HL,d16`, R310 -/
  | ldHlD16 (d16 : Word)
  /-- 26: `LD H,d8`, R271 -/
  | ldHD8 (d8 : Byte)
  /-- 28: `JR Z,e8`, R225 -/
  | jrZE8 (e8 : Byte)
  /-- 2E: `LD L,d8`, R271 -/
  | ldLD8 (d8 : Byte)
  /-- 30: `JR NC,e8`, R225 -/
  | jrNcE8 (e8 : Byte)
  /-- 31: `LD SP,d16`, R310 -/
  | ldSpD16 (d16 : Word)
  /-- 36: `LD (HL),d8`, R271 -/
  | ldMemHlD8 (d8 : Byte)
  /-- 38: `JR C,e8`, R225 -/
  | jrCE8 (e8 : Byte)
  /-- 3E: `LD A,d8`, R271 -/
  | ldAD8 (d8 : Byte)
  /-- C2: `JP NZ,a16`, R222 -/
  | jpNzA16 (a16 : Word)
  /-- C3: `JP a16`, R221 -/
  | jpA16 (a16 : Word)
  /-- C4: `CALL NZ,a16`, R227 -/
  | callNzA16 (a16 : Word)
  /-- C6: `ADD A,d8`, R135 -/
  | addAD8 (d8 : Byte)
  /-- CA: `JP Z,a16`, R222 -/
  | jpZA16 (a16 : Word)
  /-- CC: `CALL Z,a16`, R227 -/
  | callZA16 (a16 : Word)
  /-- CD: `CALL a16`, R226 -/
  | callA16 (a16 : Word)
  /-- CE: `ADC A,d8`, R137 -/
  | adcAD8 (d8 : Byte)
  /-- D2: `JP NC,a16`, R222 -/
  | jpNcA16 (a16 : Word)
  /-- D4: `CALL NC,a16`, R227 -/
  | callNcA16 (a16 : Word)
  /-- D6: `SUB d8`, R139 -/
  | subD8 (d8 : Byte)
  /-- DA: `JP C,a16`, R222 -/
  | jpCA16 (a16 : Word)
  /-- DC: `CALL C,a16`, R227 -/
  | callCA16 (a16 : Word)
  /-- DE: `SBC A,d8`, R141 -/
  | sbcAD8 (d8 : Byte)
  /-- E0: `LDH (a8),A`, R283 -/
  | ldhMemA8A (a8 : Byte)
  /-- E6: `AND d8`, R143 -/
  | andD8 (d8 : Byte)
  /-- E8: `ADD SP,e8`, R184 -/
  | addSpE8 (e8 : Byte)
  /-- EA: `LD (a16),A`, R277 -/
  | ldMemA16A (a16 : Word)
  /-- EE: `XOR d8`, R145 -/
  | xorD8 (d8 : Byte)
  /-- F0: `LDH A,(a8)`, R284 -/
  | ldhAMemA8 (a8 : Byte)
  /-- F6: `OR d8`, R147 -/
  | orD8 (d8 : Byte)
  /-- F8: `LD HL,SP+e8`, R315 -/
  | ldHlSpE8 (e8 : Byte)
  /-- FA: `LD A,(a16)`, R276 -/
  | ldAMemA16 (a16 : Word)
  /-- FE: `CP d8`, R149 -/
  | cpD8 (d8 : Byte)
  /-- 00: `NOP`, R250 -/
  | nop
  /-- 02: `LD (BC),A`, R274 -/
  | ldMemBcA
  /-- 03: `INC BC`, R182 -/
  | incBc
  /-- 04: `INC B`, R150 -/
  | incB
  /-- 05: `DEC B`, R151 -/
  | decB
  /-- 07: `RLCA`, R190 -/
  | rlca
  /-- 09: `ADD HL,BC`, R181 -/
  | addHlBc
  /-- 0A: `LD A,(BC)`, R272 -/
  | ldAMemBc
  /-- 0B: `DEC BC`, R183 -/
  | decBc
  /-- 0C: `INC C`, R150 -/
  | incC
  /-- 0D: `DEC C`, R151 -/
  | decC
  /-- 0F: `RRCA`, R191 -/
  | rrca
  /-- 12: `LD (DE),A`, R275 -/
  | ldMemDeA
  /-- 13: `INC DE`, R182 -/
  | incDe
  /-- 14: `INC D`, R150 -/
  | incD
  /-- 15: `DEC D`, R151 -/
  | decD
  /-- 17: `RLA`, R192 -/
  | rla
  /-- 19: `ADD HL,DE`, R181 -/
  | addHlDe
  /-- 1A: `LD A,(DE)`, R273 -/
  | ldAMemDe
  /-- 1B: `DEC DE`, R183 -/
  | decDe
  /-- 1C: `INC E`, R150 -/
  | incE
  /-- 1D: `DEC E`, R151 -/
  | decE
  /-- 1F: `RRA`, R193 -/
  | rra
  /-- 22: `LD (HL+),A`, R278 -/
  | ldMemHlIncA
  /-- 23: `INC HL`, R182 -/
  | incHl
  /-- 24: `INC H`, R150 -/
  | incH
  /-- 25: `DEC H`, R151 -/
  | decH
  /-- 27: `DAA`, R152 -/
  | daa
  /-- 29: `ADD HL,HL`, R181 -/
  | addHlHl
  /-- 2A: `LD A,(HL+)`, R279 -/
  | ldAMemHlInc
  /-- 2B: `DEC HL`, R183 -/
  | decHl
  /-- 2C: `INC L`, R150 -/
  | incL
  /-- 2D: `DEC L`, R151 -/
  | decL
  /-- 2F: `CPL`, R153 -/
  | cpl
  /-- 32: `LD (HL-),A`, R280 -/
  | ldMemHlDecA
  /-- 33: `INC SP`, R182 -/
  | incSp
  /-- 34: `INC (HL)`, R150 -/
  | incMemHl
  /-- 35: `DEC (HL)`, R151 -/
  | decMemHl
  /-- 37: `SCF`, R154 -/
  | scf
  /-- 39: `ADD HL,SP`, R181 -/
  | addHlSp
  /-- 3A: `LD A,(HL-)`, R281 -/
  | ldAMemHlDec
  /-- 3B: `DEC SP`, R183 -/
  | decSp
  /-- 3C: `INC A`, R150 -/
  | incA
  /-- 3D: `DEC A`, R151 -/
  | decA
  /-- 3F: `CCF`, R155 -/
  | ccf
  /-- 40: `LD B,B`, R270 -/
  | ldBB
  /-- 41: `LD B,C`, R270 -/
  | ldBC
  /-- 42: `LD B,D`, R270 -/
  | ldBD
  /-- 43: `LD B,E`, R270 -/
  | ldBE
  /-- 44: `LD B,H`, R270 -/
  | ldBH
  /-- 45: `LD B,L`, R270 -/
  | ldBL
  /-- 46: `LD B,(HL)`, R270 -/
  | ldBMemHl
  /-- 47: `LD B,A`, R270 -/
  | ldBA
  /-- 48: `LD C,B`, R270 -/
  | ldCB
  /-- 49: `LD C,C`, R270 -/
  | ldCC
  /-- 4A: `LD C,D`, R270 -/
  | ldCD
  /-- 4B: `LD C,E`, R270 -/
  | ldCE
  /-- 4C: `LD C,H`, R270 -/
  | ldCH
  /-- 4D: `LD C,L`, R270 -/
  | ldCL
  /-- 4E: `LD C,(HL)`, R270 -/
  | ldCMemHl
  /-- 4F: `LD C,A`, R270 -/
  | ldCA
  /-- 50: `LD D,B`, R270 -/
  | ldDB
  /-- 51: `LD D,C`, R270 -/
  | ldDC
  /-- 52: `LD D,D`, R270 -/
  | ldDD
  /-- 53: `LD D,E`, R270 -/
  | ldDE
  /-- 54: `LD D,H`, R270 -/
  | ldDH
  /-- 55: `LD D,L`, R270 -/
  | ldDL
  /-- 56: `LD D,(HL)`, R270 -/
  | ldDMemHl
  /-- 57: `LD D,A`, R270 -/
  | ldDA
  /-- 58: `LD E,B`, R270 -/
  | ldEB
  /-- 59: `LD E,C`, R270 -/
  | ldEC
  /-- 5A: `LD E,D`, R270 -/
  | ldED
  /-- 5B: `LD E,E`, R270 -/
  | ldEE
  /-- 5C: `LD E,H`, R270 -/
  | ldEH
  /-- 5D: `LD E,L`, R270 -/
  | ldEL
  /-- 5E: `LD E,(HL)`, R270 -/
  | ldEMemHl
  /-- 5F: `LD E,A`, R270 -/
  | ldEA
  /-- 60: `LD H,B`, R270 -/
  | ldHB
  /-- 61: `LD H,C`, R270 -/
  | ldHC
  /-- 62: `LD H,D`, R270 -/
  | ldHD
  /-- 63: `LD H,E`, R270 -/
  | ldHE
  /-- 64: `LD H,H`, R270 -/
  | ldHH
  /-- 65: `LD H,L`, R270 -/
  | ldHL
  /-- 66: `LD H,(HL)`, R270 -/
  | ldHMemHl
  /-- 67: `LD H,A`, R270 -/
  | ldHA
  /-- 68: `LD L,B`, R270 -/
  | ldLB
  /-- 69: `LD L,C`, R270 -/
  | ldLC
  /-- 6A: `LD L,D`, R270 -/
  | ldLD
  /-- 6B: `LD L,E`, R270 -/
  | ldLE
  /-- 6C: `LD L,H`, R270 -/
  | ldLH
  /-- 6D: `LD L,L`, R270 -/
  | ldLL
  /-- 6E: `LD L,(HL)`, R270 -/
  | ldLMemHl
  /-- 6F: `LD L,A`, R270 -/
  | ldLA
  /-- 70: `LD (HL),B`, R270 -/
  | ldMemHlB
  /-- 71: `LD (HL),C`, R270 -/
  | ldMemHlC
  /-- 72: `LD (HL),D`, R270 -/
  | ldMemHlD
  /-- 73: `LD (HL),E`, R270 -/
  | ldMemHlE
  /-- 74: `LD (HL),H`, R270 -/
  | ldMemHlH
  /-- 75: `LD (HL),L`, R270 -/
  | ldMemHlL
  /-- 76: `HALT`, R251 -/
  | halt
  /-- 77: `LD (HL),A`, R270 -/
  | ldMemHlA
  /-- 78: `LD A,B`, R270 -/
  | ldAB
  /-- 79: `LD A,C`, R270 -/
  | ldAC
  /-- 7A: `LD A,D`, R270 -/
  | ldAD
  /-- 7B: `LD A,E`, R270 -/
  | ldAE
  /-- 7C: `LD A,H`, R270 -/
  | ldAH
  /-- 7D: `LD A,L`, R270 -/
  | ldAL
  /-- 7E: `LD A,(HL)`, R270 -/
  | ldAMemHl
  /-- 7F: `LD A,A`, R270 -/
  | ldAA
  /-- 80: `ADD A,B`, R134 -/
  | addAB
  /-- 81: `ADD A,C`, R134 -/
  | addAC
  /-- 82: `ADD A,D`, R134 -/
  | addAD
  /-- 83: `ADD A,E`, R134 -/
  | addAE
  /-- 84: `ADD A,H`, R134 -/
  | addAH
  /-- 85: `ADD A,L`, R134 -/
  | addAL
  /-- 86: `ADD A,(HL)`, R134 -/
  | addAMemHl
  /-- 87: `ADD A,A`, R134 -/
  | addAA
  /-- 88: `ADC A,B`, R136 -/
  | adcAB
  /-- 89: `ADC A,C`, R136 -/
  | adcAC
  /-- 8A: `ADC A,D`, R136 -/
  | adcAD
  /-- 8B: `ADC A,E`, R136 -/
  | adcAE
  /-- 8C: `ADC A,H`, R136 -/
  | adcAH
  /-- 8D: `ADC A,L`, R136 -/
  | adcAL
  /-- 8E: `ADC A,(HL)`, R136 -/
  | adcAMemHl
  /-- 8F: `ADC A,A`, R136 -/
  | adcAA
  /-- 90: `SUB B`, R138 -/
  | subB
  /-- 91: `SUB C`, R138 -/
  | subC
  /-- 92: `SUB D`, R138 -/
  | subD
  /-- 93: `SUB E`, R138 -/
  | subE
  /-- 94: `SUB H`, R138 -/
  | subH
  /-- 95: `SUB L`, R138 -/
  | subL
  /-- 96: `SUB (HL)`, R138 -/
  | subMemHl
  /-- 97: `SUB A`, R138 -/
  | subA
  /-- 98: `SBC A,B`, R140 -/
  | sbcAB
  /-- 99: `SBC A,C`, R140 -/
  | sbcAC
  /-- 9A: `SBC A,D`, R140 -/
  | sbcAD
  /-- 9B: `SBC A,E`, R140 -/
  | sbcAE
  /-- 9C: `SBC A,H`, R140 -/
  | sbcAH
  /-- 9D: `SBC A,L`, R140 -/
  | sbcAL
  /-- 9E: `SBC A,(HL)`, R140 -/
  | sbcAMemHl
  /-- 9F: `SBC A,A`, R140 -/
  | sbcAA
  /-- A0: `AND B`, R142 -/
  | andB
  /-- A1: `AND C`, R142 -/
  | andC
  /-- A2: `AND D`, R142 -/
  | andD
  /-- A3: `AND E`, R142 -/
  | andE
  /-- A4: `AND H`, R142 -/
  | andH
  /-- A5: `AND L`, R142 -/
  | andL
  /-- A6: `AND (HL)`, R142 -/
  | andMemHl
  /-- A7: `AND A`, R142 -/
  | andA
  /-- A8: `XOR B`, R144 -/
  | xorB
  /-- A9: `XOR C`, R144 -/
  | xorC
  /-- AA: `XOR D`, R144 -/
  | xorD
  /-- AB: `XOR E`, R144 -/
  | xorE
  /-- AC: `XOR H`, R144 -/
  | xorH
  /-- AD: `XOR L`, R144 -/
  | xorL
  /-- AE: `XOR (HL)`, R144 -/
  | xorMemHl
  /-- AF: `XOR A`, R144 -/
  | xorA
  /-- B0: `OR B`, R146 -/
  | orB
  /-- B1: `OR C`, R146 -/
  | orC
  /-- B2: `OR D`, R146 -/
  | orD
  /-- B3: `OR E`, R146 -/
  | orE
  /-- B4: `OR H`, R146 -/
  | orH
  /-- B5: `OR L`, R146 -/
  | orL
  /-- B6: `OR (HL)`, R146 -/
  | orMemHl
  /-- B7: `OR A`, R146 -/
  | orA
  /-- B8: `CP B`, R148 -/
  | cpB
  /-- B9: `CP C`, R148 -/
  | cpC
  /-- BA: `CP D`, R148 -/
  | cpD
  /-- BB: `CP E`, R148 -/
  | cpE
  /-- BC: `CP H`, R148 -/
  | cpH
  /-- BD: `CP L`, R148 -/
  | cpL
  /-- BE: `CP (HL)`, R148 -/
  | cpMemHl
  /-- BF: `CP A`, R148 -/
  | cpA
  /-- C0: `RET NZ`, R229 -/
  | retNz
  /-- C1: `POP BC`, R316 -/
  | popBc
  /-- C5: `PUSH BC`, R313 -/
  | pushBc
  /-- C7: `RST 00H`, R230 -/
  | rst00H
  /-- C8: `RET Z`, R229 -/
  | retZ
  /-- C9: `RET`, R228 -/
  | ret
  /-- CB: `PREFIX CB`, R99 -/
  | prefixCb
  /-- CF: `RST 08H`, R230 -/
  | rst08H
  /-- D0: `RET NC`, R229 -/
  | retNc
  /-- D1: `POP DE`, R316 -/
  | popDe
  /-- D3: `INVALID_D3`, R255 -/
  | invalidD3
  /-- D5: `PUSH DE`, R313 -/
  | pushDe
  /-- D7: `RST 10H`, R230 -/
  | rst10H
  /-- D8: `RET C`, R229 -/
  | retC
  /-- D9: `RETI`, R234 -/
  | reti
  /-- DB: `INVALID_DB`, R255 -/
  | invalidDB
  /-- DD: `INVALID_DD`, R255 -/
  | invalidDD
  /-- DF: `RST 18H`, R230 -/
  | rst18H
  /-- E1: `POP HL`, R316 -/
  | popHl
  /-- E2: `LD (C),A`, R285 -/
  | ldMemCA
  /-- E3: `INVALID_E3`, R255 -/
  | invalidE3
  /-- E4: `INVALID_E4`, R255 -/
  | invalidE4
  /-- E5: `PUSH HL`, R313 -/
  | pushHl
  /-- E7: `RST 20H`, R230 -/
  | rst20H
  /-- E9: `JP HL`, R223 -/
  | jpHl
  /-- EB: `INVALID_EB`, R255 -/
  | invalidEB
  /-- EC: `INVALID_EC`, R255 -/
  | invalidEC
  /-- ED: `INVALID_ED`, R255 -/
  | invalidED
  /-- EF: `RST 28H`, R230 -/
  | rst28H
  /-- F1: `POP AF`, R318 -/
  | popAf
  /-- F2: `LD A,(C)`, R286 -/
  | ldAMemC
  /-- F3: `DI`, R252 -/
  | di
  /-- F4: `INVALID_F4`, R255 -/
  | invalidF4
  /-- F5: `PUSH AF`, R314 -/
  | pushAf
  /-- F7: `RST 30H`, R230 -/
  | rst30H
  /-- F9: `LD SP,HL`, R312 -/
  | ldSpHl
  /-- FB: `EI`, R253 -/
  | ei
  /-- FC: `INVALID_FC`, R255 -/
  | invalidFC
  /-- FD: `INVALID_FD`, R255 -/
  | invalidFD
  /-- FF: `RST 38H`, R230 -/
  | rst38H
  /-- CB 00: `RLC B`, R195 -/
  | rlcB
  /-- CB 01: `RLC C`, R195 -/
  | rlcC
  /-- CB 02: `RLC D`, R195 -/
  | rlcD
  /-- CB 03: `RLC E`, R195 -/
  | rlcE
  /-- CB 04: `RLC H`, R195 -/
  | rlcH
  /-- CB 05: `RLC L`, R195 -/
  | rlcL
  /-- CB 06: `RLC (HL)`, R195 -/
  | rlcMemHl
  /-- CB 07: `RLC A`, R195 -/
  | rlcA
  /-- CB 08: `RRC B`, R196 -/
  | rrcB
  /-- CB 09: `RRC C`, R196 -/
  | rrcC
  /-- CB 0A: `RRC D`, R196 -/
  | rrcD
  /-- CB 0B: `RRC E`, R196 -/
  | rrcE
  /-- CB 0C: `RRC H`, R196 -/
  | rrcH
  /-- CB 0D: `RRC L`, R196 -/
  | rrcL
  /-- CB 0E: `RRC (HL)`, R196 -/
  | rrcMemHl
  /-- CB 0F: `RRC A`, R196 -/
  | rrcA
  /-- CB 10: `RL B`, R197 -/
  | rlB
  /-- CB 11: `RL C`, R197 -/
  | rlC
  /-- CB 12: `RL D`, R197 -/
  | rlD
  /-- CB 13: `RL E`, R197 -/
  | rlE
  /-- CB 14: `RL H`, R197 -/
  | rlH
  /-- CB 15: `RL L`, R197 -/
  | rlL
  /-- CB 16: `RL (HL)`, R197 -/
  | rlMemHl
  /-- CB 17: `RL A`, R197 -/
  | rlA
  /-- CB 18: `RR B`, R198 -/
  | rrB
  /-- CB 19: `RR C`, R198 -/
  | rrC
  /-- CB 1A: `RR D`, R198 -/
  | rrD
  /-- CB 1B: `RR E`, R198 -/
  | rrE
  /-- CB 1C: `RR H`, R198 -/
  | rrH
  /-- CB 1D: `RR L`, R198 -/
  | rrL
  /-- CB 1E: `RR (HL)`, R198 -/
  | rrMemHl
  /-- CB 1F: `RR A`, R198 -/
  | rrA
  /-- CB 20: `SLA B`, R199 -/
  | slaB
  /-- CB 21: `SLA C`, R199 -/
  | slaC
  /-- CB 22: `SLA D`, R199 -/
  | slaD
  /-- CB 23: `SLA E`, R199 -/
  | slaE
  /-- CB 24: `SLA H`, R199 -/
  | slaH
  /-- CB 25: `SLA L`, R199 -/
  | slaL
  /-- CB 26: `SLA (HL)`, R199 -/
  | slaMemHl
  /-- CB 27: `SLA A`, R199 -/
  | slaA
  /-- CB 28: `SRA B`, R200 -/
  | sraB
  /-- CB 29: `SRA C`, R200 -/
  | sraC
  /-- CB 2A: `SRA D`, R200 -/
  | sraD
  /-- CB 2B: `SRA E`, R200 -/
  | sraE
  /-- CB 2C: `SRA H`, R200 -/
  | sraH
  /-- CB 2D: `SRA L`, R200 -/
  | sraL
  /-- CB 2E: `SRA (HL)`, R200 -/
  | sraMemHl
  /-- CB 2F: `SRA A`, R200 -/
  | sraA
  /-- CB 30: `SWAP B`, R201 -/
  | swapB
  /-- CB 31: `SWAP C`, R201 -/
  | swapC
  /-- CB 32: `SWAP D`, R201 -/
  | swapD
  /-- CB 33: `SWAP E`, R201 -/
  | swapE
  /-- CB 34: `SWAP H`, R201 -/
  | swapH
  /-- CB 35: `SWAP L`, R201 -/
  | swapL
  /-- CB 36: `SWAP (HL)`, R201 -/
  | swapMemHl
  /-- CB 37: `SWAP A`, R201 -/
  | swapA
  /-- CB 38: `SRL B`, R202 -/
  | srlB
  /-- CB 39: `SRL C`, R202 -/
  | srlC
  /-- CB 3A: `SRL D`, R202 -/
  | srlD
  /-- CB 3B: `SRL E`, R202 -/
  | srlE
  /-- CB 3C: `SRL H`, R202 -/
  | srlH
  /-- CB 3D: `SRL L`, R202 -/
  | srlL
  /-- CB 3E: `SRL (HL)`, R202 -/
  | srlMemHl
  /-- CB 3F: `SRL A`, R202 -/
  | srlA
  /-- CB 40: `BIT 0,B`, R203 -/
  | bit0B
  /-- CB 41: `BIT 0,C`, R203 -/
  | bit0C
  /-- CB 42: `BIT 0,D`, R203 -/
  | bit0D
  /-- CB 43: `BIT 0,E`, R203 -/
  | bit0E
  /-- CB 44: `BIT 0,H`, R203 -/
  | bit0H
  /-- CB 45: `BIT 0,L`, R203 -/
  | bit0L
  /-- CB 46: `BIT 0,(HL)`, R203 -/
  | bit0MemHl
  /-- CB 47: `BIT 0,A`, R203 -/
  | bit0A
  /-- CB 48: `BIT 1,B`, R203 -/
  | bit1B
  /-- CB 49: `BIT 1,C`, R203 -/
  | bit1C
  /-- CB 4A: `BIT 1,D`, R203 -/
  | bit1D
  /-- CB 4B: `BIT 1,E`, R203 -/
  | bit1E
  /-- CB 4C: `BIT 1,H`, R203 -/
  | bit1H
  /-- CB 4D: `BIT 1,L`, R203 -/
  | bit1L
  /-- CB 4E: `BIT 1,(HL)`, R203 -/
  | bit1MemHl
  /-- CB 4F: `BIT 1,A`, R203 -/
  | bit1A
  /-- CB 50: `BIT 2,B`, R203 -/
  | bit2B
  /-- CB 51: `BIT 2,C`, R203 -/
  | bit2C
  /-- CB 52: `BIT 2,D`, R203 -/
  | bit2D
  /-- CB 53: `BIT 2,E`, R203 -/
  | bit2E
  /-- CB 54: `BIT 2,H`, R203 -/
  | bit2H
  /-- CB 55: `BIT 2,L`, R203 -/
  | bit2L
  /-- CB 56: `BIT 2,(HL)`, R203 -/
  | bit2MemHl
  /-- CB 57: `BIT 2,A`, R203 -/
  | bit2A
  /-- CB 58: `BIT 3,B`, R203 -/
  | bit3B
  /-- CB 59: `BIT 3,C`, R203 -/
  | bit3C
  /-- CB 5A: `BIT 3,D`, R203 -/
  | bit3D
  /-- CB 5B: `BIT 3,E`, R203 -/
  | bit3E
  /-- CB 5C: `BIT 3,H`, R203 -/
  | bit3H
  /-- CB 5D: `BIT 3,L`, R203 -/
  | bit3L
  /-- CB 5E: `BIT 3,(HL)`, R203 -/
  | bit3MemHl
  /-- CB 5F: `BIT 3,A`, R203 -/
  | bit3A
  /-- CB 60: `BIT 4,B`, R203 -/
  | bit4B
  /-- CB 61: `BIT 4,C`, R203 -/
  | bit4C
  /-- CB 62: `BIT 4,D`, R203 -/
  | bit4D
  /-- CB 63: `BIT 4,E`, R203 -/
  | bit4E
  /-- CB 64: `BIT 4,H`, R203 -/
  | bit4H
  /-- CB 65: `BIT 4,L`, R203 -/
  | bit4L
  /-- CB 66: `BIT 4,(HL)`, R203 -/
  | bit4MemHl
  /-- CB 67: `BIT 4,A`, R203 -/
  | bit4A
  /-- CB 68: `BIT 5,B`, R203 -/
  | bit5B
  /-- CB 69: `BIT 5,C`, R203 -/
  | bit5C
  /-- CB 6A: `BIT 5,D`, R203 -/
  | bit5D
  /-- CB 6B: `BIT 5,E`, R203 -/
  | bit5E
  /-- CB 6C: `BIT 5,H`, R203 -/
  | bit5H
  /-- CB 6D: `BIT 5,L`, R203 -/
  | bit5L
  /-- CB 6E: `BIT 5,(HL)`, R203 -/
  | bit5MemHl
  /-- CB 6F: `BIT 5,A`, R203 -/
  | bit5A
  /-- CB 70: `BIT 6,B`, R203 -/
  | bit6B
  /-- CB 71: `BIT 6,C`, R203 -/
  | bit6C
  /-- CB 72: `BIT 6,D`, R203 -/
  | bit6D
  /-- CB 73: `BIT 6,E`, R203 -/
  | bit6E
  /-- CB 74: `BIT 6,H`, R203 -/
  | bit6H
  /-- CB 75: `BIT 6,L`, R203 -/
  | bit6L
  /-- CB 76: `BIT 6,(HL)`, R203 -/
  | bit6MemHl
  /-- CB 77: `BIT 6,A`, R203 -/
  | bit6A
  /-- CB 78: `BIT 7,B`, R203 -/
  | bit7B
  /-- CB 79: `BIT 7,C`, R203 -/
  | bit7C
  /-- CB 7A: `BIT 7,D`, R203 -/
  | bit7D
  /-- CB 7B: `BIT 7,E`, R203 -/
  | bit7E
  /-- CB 7C: `BIT 7,H`, R203 -/
  | bit7H
  /-- CB 7D: `BIT 7,L`, R203 -/
  | bit7L
  /-- CB 7E: `BIT 7,(HL)`, R203 -/
  | bit7MemHl
  /-- CB 7F: `BIT 7,A`, R203 -/
  | bit7A
  /-- CB 80: `RES 0,B`, R204 -/
  | res0B
  /-- CB 81: `RES 0,C`, R204 -/
  | res0C
  /-- CB 82: `RES 0,D`, R204 -/
  | res0D
  /-- CB 83: `RES 0,E`, R204 -/
  | res0E
  /-- CB 84: `RES 0,H`, R204 -/
  | res0H
  /-- CB 85: `RES 0,L`, R204 -/
  | res0L
  /-- CB 86: `RES 0,(HL)`, R204 -/
  | res0MemHl
  /-- CB 87: `RES 0,A`, R204 -/
  | res0A
  /-- CB 88: `RES 1,B`, R204 -/
  | res1B
  /-- CB 89: `RES 1,C`, R204 -/
  | res1C
  /-- CB 8A: `RES 1,D`, R204 -/
  | res1D
  /-- CB 8B: `RES 1,E`, R204 -/
  | res1E
  /-- CB 8C: `RES 1,H`, R204 -/
  | res1H
  /-- CB 8D: `RES 1,L`, R204 -/
  | res1L
  /-- CB 8E: `RES 1,(HL)`, R204 -/
  | res1MemHl
  /-- CB 8F: `RES 1,A`, R204 -/
  | res1A
  /-- CB 90: `RES 2,B`, R204 -/
  | res2B
  /-- CB 91: `RES 2,C`, R204 -/
  | res2C
  /-- CB 92: `RES 2,D`, R204 -/
  | res2D
  /-- CB 93: `RES 2,E`, R204 -/
  | res2E
  /-- CB 94: `RES 2,H`, R204 -/
  | res2H
  /-- CB 95: `RES 2,L`, R204 -/
  | res2L
  /-- CB 96: `RES 2,(HL)`, R204 -/
  | res2MemHl
  /-- CB 97: `RES 2,A`, R204 -/
  | res2A
  /-- CB 98: `RES 3,B`, R204 -/
  | res3B
  /-- CB 99: `RES 3,C`, R204 -/
  | res3C
  /-- CB 9A: `RES 3,D`, R204 -/
  | res3D
  /-- CB 9B: `RES 3,E`, R204 -/
  | res3E
  /-- CB 9C: `RES 3,H`, R204 -/
  | res3H
  /-- CB 9D: `RES 3,L`, R204 -/
  | res3L
  /-- CB 9E: `RES 3,(HL)`, R204 -/
  | res3MemHl
  /-- CB 9F: `RES 3,A`, R204 -/
  | res3A
  /-- CB A0: `RES 4,B`, R204 -/
  | res4B
  /-- CB A1: `RES 4,C`, R204 -/
  | res4C
  /-- CB A2: `RES 4,D`, R204 -/
  | res4D
  /-- CB A3: `RES 4,E`, R204 -/
  | res4E
  /-- CB A4: `RES 4,H`, R204 -/
  | res4H
  /-- CB A5: `RES 4,L`, R204 -/
  | res4L
  /-- CB A6: `RES 4,(HL)`, R204 -/
  | res4MemHl
  /-- CB A7: `RES 4,A`, R204 -/
  | res4A
  /-- CB A8: `RES 5,B`, R204 -/
  | res5B
  /-- CB A9: `RES 5,C`, R204 -/
  | res5C
  /-- CB AA: `RES 5,D`, R204 -/
  | res5D
  /-- CB AB: `RES 5,E`, R204 -/
  | res5E
  /-- CB AC: `RES 5,H`, R204 -/
  | res5H
  /-- CB AD: `RES 5,L`, R204 -/
  | res5L
  /-- CB AE: `RES 5,(HL)`, R204 -/
  | res5MemHl
  /-- CB AF: `RES 5,A`, R204 -/
  | res5A
  /-- CB B0: `RES 6,B`, R204 -/
  | res6B
  /-- CB B1: `RES 6,C`, R204 -/
  | res6C
  /-- CB B2: `RES 6,D`, R204 -/
  | res6D
  /-- CB B3: `RES 6,E`, R204 -/
  | res6E
  /-- CB B4: `RES 6,H`, R204 -/
  | res6H
  /-- CB B5: `RES 6,L`, R204 -/
  | res6L
  /-- CB B6: `RES 6,(HL)`, R204 -/
  | res6MemHl
  /-- CB B7: `RES 6,A`, R204 -/
  | res6A
  /-- CB B8: `RES 7,B`, R204 -/
  | res7B
  /-- CB B9: `RES 7,C`, R204 -/
  | res7C
  /-- CB BA: `RES 7,D`, R204 -/
  | res7D
  /-- CB BB: `RES 7,E`, R204 -/
  | res7E
  /-- CB BC: `RES 7,H`, R204 -/
  | res7H
  /-- CB BD: `RES 7,L`, R204 -/
  | res7L
  /-- CB BE: `RES 7,(HL)`, R204 -/
  | res7MemHl
  /-- CB BF: `RES 7,A`, R204 -/
  | res7A
  /-- CB C0: `SET 0,B`, R205 -/
  | set0B
  /-- CB C1: `SET 0,C`, R205 -/
  | set0C
  /-- CB C2: `SET 0,D`, R205 -/
  | set0D
  /-- CB C3: `SET 0,E`, R205 -/
  | set0E
  /-- CB C4: `SET 0,H`, R205 -/
  | set0H
  /-- CB C5: `SET 0,L`, R205 -/
  | set0L
  /-- CB C6: `SET 0,(HL)`, R205 -/
  | set0MemHl
  /-- CB C7: `SET 0,A`, R205 -/
  | set0A
  /-- CB C8: `SET 1,B`, R205 -/
  | set1B
  /-- CB C9: `SET 1,C`, R205 -/
  | set1C
  /-- CB CA: `SET 1,D`, R205 -/
  | set1D
  /-- CB CB: `SET 1,E`, R205 -/
  | set1E
  /-- CB CC: `SET 1,H`, R205 -/
  | set1H
  /-- CB CD: `SET 1,L`, R205 -/
  | set1L
  /-- CB CE: `SET 1,(HL)`, R205 -/
  | set1MemHl
  /-- CB CF: `SET 1,A`, R205 -/
  | set1A
  /-- CB D0: `SET 2,B`, R205 -/
  | set2B
  /-- CB D1: `SET 2,C`, R205 -/
  | set2C
  /-- CB D2: `SET 2,D`, R205 -/
  | set2D
  /-- CB D3: `SET 2,E`, R205 -/
  | set2E
  /-- CB D4: `SET 2,H`, R205 -/
  | set2H
  /-- CB D5: `SET 2,L`, R205 -/
  | set2L
  /-- CB D6: `SET 2,(HL)`, R205 -/
  | set2MemHl
  /-- CB D7: `SET 2,A`, R205 -/
  | set2A
  /-- CB D8: `SET 3,B`, R205 -/
  | set3B
  /-- CB D9: `SET 3,C`, R205 -/
  | set3C
  /-- CB DA: `SET 3,D`, R205 -/
  | set3D
  /-- CB DB: `SET 3,E`, R205 -/
  | set3E
  /-- CB DC: `SET 3,H`, R205 -/
  | set3H
  /-- CB DD: `SET 3,L`, R205 -/
  | set3L
  /-- CB DE: `SET 3,(HL)`, R205 -/
  | set3MemHl
  /-- CB DF: `SET 3,A`, R205 -/
  | set3A
  /-- CB E0: `SET 4,B`, R205 -/
  | set4B
  /-- CB E1: `SET 4,C`, R205 -/
  | set4C
  /-- CB E2: `SET 4,D`, R205 -/
  | set4D
  /-- CB E3: `SET 4,E`, R205 -/
  | set4E
  /-- CB E4: `SET 4,H`, R205 -/
  | set4H
  /-- CB E5: `SET 4,L`, R205 -/
  | set4L
  /-- CB E6: `SET 4,(HL)`, R205 -/
  | set4MemHl
  /-- CB E7: `SET 4,A`, R205 -/
  | set4A
  /-- CB E8: `SET 5,B`, R205 -/
  | set5B
  /-- CB E9: `SET 5,C`, R205 -/
  | set5C
  /-- CB EA: `SET 5,D`, R205 -/
  | set5D
  /-- CB EB: `SET 5,E`, R205 -/
  | set5E
  /-- CB EC: `SET 5,H`, R205 -/
  | set5H
  /-- CB ED: `SET 5,L`, R205 -/
  | set5L
  /-- CB EE: `SET 5,(HL)`, R205 -/
  | set5MemHl
  /-- CB EF: `SET 5,A`, R205 -/
  | set5A
  /-- CB F0: `SET 6,B`, R205 -/
  | set6B
  /-- CB F1: `SET 6,C`, R205 -/
  | set6C
  /-- CB F2: `SET 6,D`, R205 -/
  | set6D
  /-- CB F3: `SET 6,E`, R205 -/
  | set6E
  /-- CB F4: `SET 6,H`, R205 -/
  | set6H
  /-- CB F5: `SET 6,L`, R205 -/
  | set6L
  /-- CB F6: `SET 6,(HL)`, R205 -/
  | set6MemHl
  /-- CB F7: `SET 6,A`, R205 -/
  | set6A
  /-- CB F8: `SET 7,B`, R205 -/
  | set7B
  /-- CB F9: `SET 7,C`, R205 -/
  | set7C
  /-- CB FA: `SET 7,D`, R205 -/
  | set7D
  /-- CB FB: `SET 7,E`, R205 -/
  | set7E
  /-- CB FC: `SET 7,H`, R205 -/
  | set7H
  /-- CB FD: `SET 7,L`, R205 -/
  | set7L
  /-- CB FE: `SET 7,(HL)`, R205 -/
  | set7MemHl
  /-- CB FF: `SET 7,A`, R205 -/
  | set7A
deriving DecidableEq, Repr

end Sys2Proof
end

