-- ==== Sys2Proof/WellFormed.lean ====
section
/-! DEFINITION. Which terms of `Instr` are complete instructions. -/
namespace Sys2Proof

/-- Every row is a complete instruction but the prefix entry: 30_encoding.md R91, format `PREFIX`, "the
primary-table entry 0xCB itself; never a complete instruction" (log 14). Operand fields need no check: each has
exactly the width the format gives it. -/
def Instr.wf : Instr → Bool
  | .prefixCb => false
  | _ => true

end Sys2Proof
end

