-- ==== Sys2Proof/Decode.lean ====
section
/-! DEFINITION. Decoding and encoding (30_encoding.md). `decodeInstr` follows the quadrant structure of R100
and R101; `encode` follows the full listing of R100 and the map of R101, so that their round trip compares the
spec's two presentations. The row functions name the instructions of one shape by their selectors. -/
namespace Sys2Proof

/-- `lo(w) = w[7:0]` (00_scope.md R9). -/
def lo8 (w : Word) : Byte := w.extractLsb' 0 8

/-- `hi(w) = w[15:8]` (00_scope.md R9). -/
def hi8 (w : Word) : Byte := w.extractLsb' 8 8

/-- `{hi, lo}` (00_scope.md R8): the pair composition of 10_state.md R22. -/
def mk16 (hi lo : Byte) : Word := hi ++ lo

/-- `zext_16(v)` (00_scope.md R9). -/
def zext16 (v : Byte) : Word := v.setWidth 16

/-- `sext_16(v)` (00_scope.md R9): bit 7 copied into bits 15 to 8. -/
def sext16 (v : Byte) : Word := v.signExtend 16

/-- The value of a 3-bit field. -/
def Octal.toNat : Octal → Nat
  | .n0 => 0 | .n1 => 1 | .n2 => 2 | .n3 => 3 | .n4 => 4 | .n5 => 5 | .n6 => 6 | .n7 => 7

/-- The 3-bit field with value `n mod 8`. -/
def Octal.ofField (n : Nat) : Octal :=
  match n % 8 with
  | 0 => .n0 | 1 => .n1 | 2 => .n2 | 3 => .n3 | 4 => .n4 | 5 => .n5 | 6 => .n6 | _ => .n7

/-- Field `x = op[7:6]` (30_encoding.md R91), the quadrant. -/
def fieldX (op : Byte) : Nat := (op.extractLsb' 6 2).toNat

/-- Field `y = op[5:3]` (30_encoding.md R91). -/
def fieldY (op : Byte) : Octal := Octal.ofField (op.extractLsb' 3 3).toNat

/-- Field `z = op[2:0]` (30_encoding.md R91). -/
def fieldZ (op : Byte) : Octal := Octal.ofField (op.extractLsb' 0 3).toNat

/-- Field `q = y[0]` (30_encoding.md R91). -/
def Octal.q : Octal → Bool
  | .n0 | .n2 | .n4 | .n6 => false
  | .n1 | .n3 | .n5 | .n7 => true

/-- The register code (10_state.md R24; 30_encoding.md R94). -/
def R8.ofCode : Octal → R8
  | .n0 => .b | .n1 => .c | .n2 => .d | .n3 => .e | .n4 => .h | .n5 => .l | .n6 => .memHl | .n7 => .a

/-- `RP(p)` with `p = y[2:1]` (10_state.md R27; 30_encoding.md R91). -/
def Rp.ofY : Octal → Rp
  | .n0 | .n1 => .bc
  | .n2 | .n3 => .de
  | .n4 | .n5 => .hl
  | .n6 | .n7 => .sp

/-- `RP2(p)` with `p = y[2:1]` (10_state.md R27; 30_encoding.md R91). -/
def Rp2.ofY : Octal → Rp2
  | .n0 | .n1 => .bc
  | .n2 | .n3 => .de
  | .n4 | .n5 => .hl
  | .n6 | .n7 => .af

/-- Condition code `cc = y[1:0]` (30_encoding.md R91, R95; 43_control_flow.md R220). -/
def Cond.ofY : Octal → Cond
  | .n0 | .n4 => .nz
  | .n1 | .n5 => .z
  | .n2 | .n6 => .nc
  | .n3 | .n7 => .c

/-- The ALU operation of field `y` (40_alu8.md R130). -/
def Alu.ofCode : Octal → Alu
  | .n0 => .add | .n1 => .adc | .n2 => .sub | .n3 => .sbc | .n4 => .and | .n5 => .xor | .n6 => .or | .n7 => .cp

/-- The rotate kind of field `y` (30_encoding.md R101). -/
def Rot.ofCode : Octal → Rot
  | .n0 => .rlc | .n1 => .rrc | .n2 => .rl | .n3 => .rr | .n4 => .sla | .n5 => .sra | .n6 => .swap | .n7 => .srl

/-! ### Row functions: the instructions of one shape, by selector -/

/-- Quadrant 1 (30_encoding.md R100; 45_load8.md R270): `LD R8(y),R8(z)`, and HALT where both are (HL). -/
def rowLd : R8 → R8 → Instr
  | .b, .b => .ldBB
  | .b, .c => .ldBC
  | .b, .d => .ldBD
  | .b, .e => .ldBE
  | .b, .h => .ldBH
  | .b, .l => .ldBL
  | .b, .memHl => .ldBMemHl
  | .b, .a => .ldBA
  | .c, .b => .ldCB
  | .c, .c => .ldCC
  | .c, .d => .ldCD
  | .c, .e => .ldCE
  | .c, .h => .ldCH
  | .c, .l => .ldCL
  | .c, .memHl => .ldCMemHl
  | .c, .a => .ldCA
  | .d, .b => .ldDB
  | .d, .c => .ldDC
  | .d, .d => .ldDD
  | .d, .e => .ldDE
  | .d, .h => .ldDH
  | .d, .l => .ldDL
  | .d, .memHl => .ldDMemHl
  | .d, .a => .ldDA
  | .e, .b => .ldEB
  | .e, .c => .ldEC
  | .e, .d => .ldED
  | .e, .e => .ldEE
  | .e, .h => .ldEH
  | .e, .l => .ldEL
  | .e, .memHl => .ldEMemHl
  | .e, .a => .ldEA
  | .h, .b => .ldHB
  | .h, .c => .ldHC
  | .h, .d => .ldHD
  | .h, .e => .ldHE
  | .h, .h => .ldHH
  | .h, .l => .ldHL
  | .h, .memHl => .ldHMemHl
  | .h, .a => .ldHA
  | .l, .b => .ldLB
  | .l, .c => .ldLC
  | .l, .d => .ldLD
  | .l, .e => .ldLE
  | .l, .h => .ldLH
  | .l, .l => .ldLL
  | .l, .memHl => .ldLMemHl
  | .l, .a => .ldLA
  | .memHl, .b => .ldMemHlB
  | .memHl, .c => .ldMemHlC
  | .memHl, .d => .ldMemHlD
  | .memHl, .e => .ldMemHlE
  | .memHl, .h => .ldMemHlH
  | .memHl, .l => .ldMemHlL
  | .memHl, .memHl => .halt
  | .memHl, .a => .ldMemHlA
  | .a, .b => .ldAB
  | .a, .c => .ldAC
  | .a, .d => .ldAD
  | .a, .e => .ldAE
  | .a, .h => .ldAH
  | .a, .l => .ldAL
  | .a, .memHl => .ldAMemHl
  | .a, .a => .ldAA

/-- Quadrant 2 (30_encoding.md R100; 40_alu8.md R130): ALU operation `y` on `R8(z)`. -/
def rowAlu : Alu → R8 → Instr
  | .add, .b => .addAB
  | .add, .c => .addAC
  | .add, .d => .addAD
  | .add, .e => .addAE
  | .add, .h => .addAH
  | .add, .l => .addAL
  | .add, .memHl => .addAMemHl
  | .add, .a => .addAA
  | .adc, .b => .adcAB
  | .adc, .c => .adcAC
  | .adc, .d => .adcAD
  | .adc, .e => .adcAE
  | .adc, .h => .adcAH
  | .adc, .l => .adcAL
  | .adc, .memHl => .adcAMemHl
  | .adc, .a => .adcAA
  | .sub, .b => .subB
  | .sub, .c => .subC
  | .sub, .d => .subD
  | .sub, .e => .subE
  | .sub, .h => .subH
  | .sub, .l => .subL
  | .sub, .memHl => .subMemHl
  | .sub, .a => .subA
  | .sbc, .b => .sbcAB
  | .sbc, .c => .sbcAC
  | .sbc, .d => .sbcAD
  | .sbc, .e => .sbcAE
  | .sbc, .h => .sbcAH
  | .sbc, .l => .sbcAL
  | .sbc, .memHl => .sbcAMemHl
  | .sbc, .a => .sbcAA
  | .and, .b => .andB
  | .and, .c => .andC
  | .and, .d => .andD
  | .and, .e => .andE
  | .and, .h => .andH
  | .and, .l => .andL
  | .and, .memHl => .andMemHl
  | .and, .a => .andA
  | .xor, .b => .xorB
  | .xor, .c => .xorC
  | .xor, .d => .xorD
  | .xor, .e => .xorE
  | .xor, .h => .xorH
  | .xor, .l => .xorL
  | .xor, .memHl => .xorMemHl
  | .xor, .a => .xorA
  | .or, .b => .orB
  | .or, .c => .orC
  | .or, .d => .orD
  | .or, .e => .orE
  | .or, .h => .orH
  | .or, .l => .orL
  | .or, .memHl => .orMemHl
  | .or, .a => .orA
  | .cp, .b => .cpB
  | .cp, .c => .cpC
  | .cp, .d => .cpD
  | .cp, .e => .cpE
  | .cp, .h => .cpH
  | .cp, .l => .cpL
  | .cp, .memHl => .cpMemHl
  | .cp, .a => .cpA

/-- Quadrant 3, z = 6 (30_encoding.md R100; 40_alu8.md R130): ALU operation `y` on an immediate. -/
def rowAluImm : Alu → Byte → Instr
  | .add, v => .addAD8 v
  | .adc, v => .adcAD8 v
  | .sub, v => .subD8 v
  | .sbc, v => .sbcAD8 v
  | .and, v => .andD8 v
  | .xor, v => .xorD8 v
  | .or, v => .orD8 v
  | .cp, v => .cpD8 v

/-- `INC R8(y)` (40_alu8.md R150). -/
def rowInc8 : R8 → Instr
  | .b => .incB
  | .c => .incC
  | .d => .incD
  | .e => .incE
  | .h => .incH
  | .l => .incL
  | .memHl => .incMemHl
  | .a => .incA

/-- `DEC R8(y)` (40_alu8.md R151). -/
def rowDec8 : R8 → Instr
  | .b => .decB
  | .c => .decC
  | .d => .decD
  | .e => .decE
  | .h => .decH
  | .l => .decL
  | .memHl => .decMemHl
  | .a => .decA

/-- `LD R8(y),d8` (45_load8.md R271). -/
def rowLdImm8 : R8 → Byte → Instr
  | .b, v => .ldBD8 v
  | .c, v => .ldCD8 v
  | .d, v => .ldDD8 v
  | .e, v => .ldED8 v
  | .h, v => .ldHD8 v
  | .l, v => .ldLD8 v
  | .memHl, v => .ldMemHlD8 v
  | .a, v => .ldAD8 v

/-- `LD RP(p),d16` (46_load16_stack.md R310). -/
def rowLdImm16 : Rp → Word → Instr
  | .bc, w => .ldBcD16 w
  | .de, w => .ldDeD16 w
  | .hl, w => .ldHlD16 w
  | .sp, w => .ldSpD16 w

/-- `ADD HL,RP(p)` (41_alu16.md R181). -/
def rowAddHl : Rp → Instr
  | .bc => .addHlBc
  | .de => .addHlDe
  | .hl => .addHlHl
  | .sp => .addHlSp

/-- `INC RP(p)` (41_alu16.md R182). -/
def rowInc16 : Rp → Instr
  | .bc => .incBc
  | .de => .incDe
  | .hl => .incHl
  | .sp => .incSp

/-- `DEC RP(p)` (41_alu16.md R183). -/
def rowDec16 : Rp → Instr
  | .bc => .decBc
  | .de => .decDe
  | .hl => .decHl
  | .sp => .decSp

/-- `PUSH RP2(p)` (46_load16_stack.md R313, R314). -/
def rowPush : Rp2 → Instr
  | .bc => .pushBc
  | .de => .pushDe
  | .hl => .pushHl
  | .af => .pushAf

/-- `POP RP2(p)` (46_load16_stack.md R316, R318). -/
def rowPop : Rp2 → Instr
  | .bc => .popBc
  | .de => .popDe
  | .hl => .popHl
  | .af => .popAf

/-- `JR cc,e8` (43_control_flow.md R225). -/
def rowJr : Cond → Byte → Instr
  | .nz, e => .jrNzE8 e
  | .z, e => .jrZE8 e
  | .nc, e => .jrNcE8 e
  | .c, e => .jrCE8 e

/-- `JP cc,a16` (43_control_flow.md R222). -/
def rowJp : Cond → Word → Instr
  | .nz, w => .jpNzA16 w
  | .z, w => .jpZA16 w
  | .nc, w => .jpNcA16 w
  | .c, w => .jpCA16 w

/-- `CALL cc,a16` (43_control_flow.md R227). -/
def rowCall : Cond → Word → Instr
  | .nz, w => .callNzA16 w
  | .z, w => .callZA16 w
  | .nc, w => .callNcA16 w
  | .c, w => .callCA16 w

/-- `RET cc` (43_control_flow.md R229). -/
def rowRet : Cond → Instr
  | .nz => .retNz
  | .z => .retZ
  | .nc => .retNc
  | .c => .retC

/-- `RST t` with `t = y` (43_control_flow.md R230). -/
def rowRst : Octal → Instr
  | .n0 => .rst00H
  | .n1 => .rst08H
  | .n2 => .rst10H
  | .n3 => .rst18H
  | .n4 => .rst20H
  | .n5 => .rst28H
  | .n6 => .rst30H
  | .n7 => .rst38H

/-- Secondary quadrant 0 (30_encoding.md R101): rotate kind `y` on `R8(z)`. -/
def rowRot : Rot → R8 → Instr
  | .rlc, .b => .rlcB
  | .rlc, .c => .rlcC
  | .rlc, .d => .rlcD
  | .rlc, .e => .rlcE
  | .rlc, .h => .rlcH
  | .rlc, .l => .rlcL
  | .rlc, .memHl => .rlcMemHl
  | .rlc, .a => .rlcA
  | .rrc, .b => .rrcB
  | .rrc, .c => .rrcC
  | .rrc, .d => .rrcD
  | .rrc, .e => .rrcE
  | .rrc, .h => .rrcH
  | .rrc, .l => .rrcL
  | .rrc, .memHl => .rrcMemHl
  | .rrc, .a => .rrcA
  | .rl, .b => .rlB
  | .rl, .c => .rlC
  | .rl, .d => .rlD
  | .rl, .e => .rlE
  | .rl, .h => .rlH
  | .rl, .l => .rlL
  | .rl, .memHl => .rlMemHl
  | .rl, .a => .rlA
  | .rr, .b => .rrB
  | .rr, .c => .rrC
  | .rr, .d => .rrD
  | .rr, .e => .rrE
  | .rr, .h => .rrH
  | .rr, .l => .rrL
  | .rr, .memHl => .rrMemHl
  | .rr, .a => .rrA
  | .sla, .b => .slaB
  | .sla, .c => .slaC
  | .sla, .d => .slaD
  | .sla, .e => .slaE
  | .sla, .h => .slaH
  | .sla, .l => .slaL
  | .sla, .memHl => .slaMemHl
  | .sla, .a => .slaA
  | .sra, .b => .sraB
  | .sra, .c => .sraC
  | .sra, .d => .sraD
  | .sra, .e => .sraE
  | .sra, .h => .sraH
  | .sra, .l => .sraL
  | .sra, .memHl => .sraMemHl
  | .sra, .a => .sraA
  | .swap, .b => .swapB
  | .swap, .c => .swapC
  | .swap, .d => .swapD
  | .swap, .e => .swapE
  | .swap, .h => .swapH
  | .swap, .l => .swapL
  | .swap, .memHl => .swapMemHl
  | .swap, .a => .swapA
  | .srl, .b => .srlB
  | .srl, .c => .srlC
  | .srl, .d => .srlD
  | .srl, .e => .srlE
  | .srl, .h => .srlH
  | .srl, .l => .srlL
  | .srl, .memHl => .srlMemHl
  | .srl, .a => .srlA

/-- Secondary quadrant 1 (30_encoding.md R101): `BIT y,R8(z)` (42_rotate_shift_bit.md R203). -/
def rowBit : Octal → R8 → Instr
  | .n0, .b => .bit0B
  | .n0, .c => .bit0C
  | .n0, .d => .bit0D
  | .n0, .e => .bit0E
  | .n0, .h => .bit0H
  | .n0, .l => .bit0L
  | .n0, .memHl => .bit0MemHl
  | .n0, .a => .bit0A
  | .n1, .b => .bit1B
  | .n1, .c => .bit1C
  | .n1, .d => .bit1D
  | .n1, .e => .bit1E
  | .n1, .h => .bit1H
  | .n1, .l => .bit1L
  | .n1, .memHl => .bit1MemHl
  | .n1, .a => .bit1A
  | .n2, .b => .bit2B
  | .n2, .c => .bit2C
  | .n2, .d => .bit2D
  | .n2, .e => .bit2E
  | .n2, .h => .bit2H
  | .n2, .l => .bit2L
  | .n2, .memHl => .bit2MemHl
  | .n2, .a => .bit2A
  | .n3, .b => .bit3B
  | .n3, .c => .bit3C
  | .n3, .d => .bit3D
  | .n3, .e => .bit3E
  | .n3, .h => .bit3H
  | .n3, .l => .bit3L
  | .n3, .memHl => .bit3MemHl
  | .n3, .a => .bit3A
  | .n4, .b => .bit4B
  | .n4, .c => .bit4C
  | .n4, .d => .bit4D
  | .n4, .e => .bit4E
  | .n4, .h => .bit4H
  | .n4, .l => .bit4L
  | .n4, .memHl => .bit4MemHl
  | .n4, .a => .bit4A
  | .n5, .b => .bit5B
  | .n5, .c => .bit5C
  | .n5, .d => .bit5D
  | .n5, .e => .bit5E
  | .n5, .h => .bit5H
  | .n5, .l => .bit5L
  | .n5, .memHl => .bit5MemHl
  | .n5, .a => .bit5A
  | .n6, .b => .bit6B
  | .n6, .c => .bit6C
  | .n6, .d => .bit6D
  | .n6, .e => .bit6E
  | .n6, .h => .bit6H
  | .n6, .l => .bit6L
  | .n6, .memHl => .bit6MemHl
  | .n6, .a => .bit6A
  | .n7, .b => .bit7B
  | .n7, .c => .bit7C
  | .n7, .d => .bit7D
  | .n7, .e => .bit7E
  | .n7, .h => .bit7H
  | .n7, .l => .bit7L
  | .n7, .memHl => .bit7MemHl
  | .n7, .a => .bit7A

/-- Secondary quadrant 2 (30_encoding.md R101): `RES y,R8(z)` (42_rotate_shift_bit.md R204). -/
def rowRes : Octal → R8 → Instr
  | .n0, .b => .res0B
  | .n0, .c => .res0C
  | .n0, .d => .res0D
  | .n0, .e => .res0E
  | .n0, .h => .res0H
  | .n0, .l => .res0L
  | .n0, .memHl => .res0MemHl
  | .n0, .a => .res0A
  | .n1, .b => .res1B
  | .n1, .c => .res1C
  | .n1, .d => .res1D
  | .n1, .e => .res1E
  | .n1, .h => .res1H
  | .n1, .l => .res1L
  | .n1, .memHl => .res1MemHl
  | .n1, .a => .res1A
  | .n2, .b => .res2B
  | .n2, .c => .res2C
  | .n2, .d => .res2D
  | .n2, .e => .res2E
  | .n2, .h => .res2H
  | .n2, .l => .res2L
  | .n2, .memHl => .res2MemHl
  | .n2, .a => .res2A
  | .n3, .b => .res3B
  | .n3, .c => .res3C
  | .n3, .d => .res3D
  | .n3, .e => .res3E
  | .n3, .h => .res3H
  | .n3, .l => .res3L
  | .n3, .memHl => .res3MemHl
  | .n3, .a => .res3A
  | .n4, .b => .res4B
  | .n4, .c => .res4C
  | .n4, .d => .res4D
  | .n4, .e => .res4E
  | .n4, .h => .res4H
  | .n4, .l => .res4L
  | .n4, .memHl => .res4MemHl
  | .n4, .a => .res4A
  | .n5, .b => .res5B
  | .n5, .c => .res5C
  | .n5, .d => .res5D
  | .n5, .e => .res5E
  | .n5, .h => .res5H
  | .n5, .l => .res5L
  | .n5, .memHl => .res5MemHl
  | .n5, .a => .res5A
  | .n6, .b => .res6B
  | .n6, .c => .res6C
  | .n6, .d => .res6D
  | .n6, .e => .res6E
  | .n6, .h => .res6H
  | .n6, .l => .res6L
  | .n6, .memHl => .res6MemHl
  | .n6, .a => .res6A
  | .n7, .b => .res7B
  | .n7, .c => .res7C
  | .n7, .d => .res7D
  | .n7, .e => .res7E
  | .n7, .h => .res7H
  | .n7, .l => .res7L
  | .n7, .memHl => .res7MemHl
  | .n7, .a => .res7A

/-- Secondary quadrant 3 (30_encoding.md R101): `SET y,R8(z)` (42_rotate_shift_bit.md R205). -/
def rowSet : Octal → R8 → Instr
  | .n0, .b => .set0B
  | .n0, .c => .set0C
  | .n0, .d => .set0D
  | .n0, .e => .set0E
  | .n0, .h => .set0H
  | .n0, .l => .set0L
  | .n0, .memHl => .set0MemHl
  | .n0, .a => .set0A
  | .n1, .b => .set1B
  | .n1, .c => .set1C
  | .n1, .d => .set1D
  | .n1, .e => .set1E
  | .n1, .h => .set1H
  | .n1, .l => .set1L
  | .n1, .memHl => .set1MemHl
  | .n1, .a => .set1A
  | .n2, .b => .set2B
  | .n2, .c => .set2C
  | .n2, .d => .set2D
  | .n2, .e => .set2E
  | .n2, .h => .set2H
  | .n2, .l => .set2L
  | .n2, .memHl => .set2MemHl
  | .n2, .a => .set2A
  | .n3, .b => .set3B
  | .n3, .c => .set3C
  | .n3, .d => .set3D
  | .n3, .e => .set3E
  | .n3, .h => .set3H
  | .n3, .l => .set3L
  | .n3, .memHl => .set3MemHl
  | .n3, .a => .set3A
  | .n4, .b => .set4B
  | .n4, .c => .set4C
  | .n4, .d => .set4D
  | .n4, .e => .set4E
  | .n4, .h => .set4H
  | .n4, .l => .set4L
  | .n4, .memHl => .set4MemHl
  | .n4, .a => .set4A
  | .n5, .b => .set5B
  | .n5, .c => .set5C
  | .n5, .d => .set5D
  | .n5, .e => .set5E
  | .n5, .h => .set5H
  | .n5, .l => .set5L
  | .n5, .memHl => .set5MemHl
  | .n5, .a => .set5A
  | .n6, .b => .set6B
  | .n6, .c => .set6C
  | .n6, .d => .set6D
  | .n6, .e => .set6E
  | .n6, .h => .set6H
  | .n6, .l => .set6L
  | .n6, .memHl => .set6MemHl
  | .n6, .a => .set6A
  | .n7, .b => .set7B
  | .n7, .c => .set7C
  | .n7, .d => .set7D
  | .n7, .e => .set7E
  | .n7, .h => .set7H
  | .n7, .l => .set7L
  | .n7, .memHl => .set7MemHl
  | .n7, .a => .set7A

/-- The eleven invalid opcodes, each with its byte (30_encoding.md R102). -/
def invalidRows : List (Instr × Byte) :=
  [(.invalidD3, 0xD3),
   (.invalidDB, 0xDB),
   (.invalidDD, 0xDD),
   (.invalidE3, 0xE3),
   (.invalidE4, 0xE4),
   (.invalidEB, 0xEB),
   (.invalidEC, 0xEC),
   (.invalidED, 0xED),
   (.invalidF4, 0xF4),
   (.invalidFC, 0xFC),
   (.invalidFD, 0xFD)]

/-! ### The decoder -/

/-- Quadrant 0 of the primary table (30_encoding.md R100). -/
def decodeX0 (y z : Octal) (b1 b2 : Byte) : Instr :=
  match z with
  | .n0 =>
    match y with
    | .n0 => .nop
    | .n1 => .ldMemA16Sp (mk16 b2 b1)
    | .n2 => .stop b1
    | .n3 => .jrE8 b1
    | .n4 | .n5 | .n6 | .n7 => rowJr (Cond.ofY y) b1
  | .n1 => if y.q then rowAddHl (Rp.ofY y) else rowLdImm16 (Rp.ofY y) (mk16 b2 b1)
  | .n2 =>
    match y with
    | .n0 => .ldMemBcA | .n1 => .ldAMemBc | .n2 => .ldMemDeA | .n3 => .ldAMemDe
    | .n4 => .ldMemHlIncA | .n5 => .ldAMemHlInc | .n6 => .ldMemHlDecA | .n7 => .ldAMemHlDec
  | .n3 => if y.q then rowDec16 (Rp.ofY y) else rowInc16 (Rp.ofY y)
  | .n4 => rowInc8 (R8.ofCode y)
  | .n5 => rowDec8 (R8.ofCode y)
  | .n6 => rowLdImm8 (R8.ofCode y) b1
  | .n7 =>
    match y with
    | .n0 => .rlca | .n1 => .rrca | .n2 => .rla | .n3 => .rra
    | .n4 => .daa | .n5 => .cpl | .n6 => .scf | .n7 => .ccf

/-- The secondary table (30_encoding.md R101), indexed by the byte after 0xCB. -/
def decodeSecondary (op2 : Byte) : Instr :=
  match fieldX op2 with
  | 0 => rowRot (Rot.ofCode (fieldY op2)) (R8.ofCode (fieldZ op2))
  | 1 => rowBit (fieldY op2) (R8.ofCode (fieldZ op2))
  | 2 => rowRes (fieldY op2) (R8.ofCode (fieldZ op2))
  | _ => rowSet (fieldY op2) (R8.ofCode (fieldZ op2))

/-- Quadrant 3 of the primary table (30_encoding.md R100). The prefix 0xCB (z = 3, y = 1) sub-dispatches on the
next byte (R90, R99). -/
def decodeX3 (y z : Octal) (b1 b2 : Byte) : Instr :=
  match z with
  | .n0 =>
    match y with
    | .n0 | .n1 | .n2 | .n3 => rowRet (Cond.ofY y)
    | .n4 => .ldhMemA8A b1
    | .n5 => .addSpE8 b1
    | .n6 => .ldhAMemA8 b1
    | .n7 => .ldHlSpE8 b1
  | .n1 =>
    match y with
    | .n0 | .n2 | .n4 | .n6 => rowPop (Rp2.ofY y)
    | .n1 => .ret | .n3 => .reti | .n5 => .jpHl | .n7 => .ldSpHl
  | .n2 =>
    match y with
    | .n0 | .n1 | .n2 | .n3 => rowJp (Cond.ofY y) (mk16 b2 b1)
    | .n4 => .ldMemCA
    | .n5 => .ldMemA16A (mk16 b2 b1)
    | .n6 => .ldAMemC
    | .n7 => .ldAMemA16 (mk16 b2 b1)
  | .n3 =>
    match y with
    | .n0 => .jpA16 (mk16 b2 b1)
    | .n1 => decodeSecondary b1
    | .n2 => .invalidD3 | .n3 => .invalidDB | .n4 => .invalidE3 | .n5 => .invalidEB
    | .n6 => .di
    | .n7 => .ei
  | .n4 =>
    match y with
    | .n0 | .n1 | .n2 | .n3 => rowCall (Cond.ofY y) (mk16 b2 b1)
    | .n4 => .invalidE4 | .n5 => .invalidEC | .n6 => .invalidF4 | .n7 => .invalidFC
  | .n5 =>
    match y with
    | .n0 | .n2 | .n4 | .n6 => rowPush (Rp2.ofY y)
    | .n1 => .callA16 (mk16 b2 b1)
    | .n3 => .invalidDD | .n5 => .invalidED | .n7 => .invalidFD
  | .n6 => rowAluImm (Alu.ofCode y) b1
  | .n7 => rowRst y

/-- The instruction that begins with opcode byte `op`, followed by `b1` and `b2` (30_encoding.md R90, R92): total,
every byte value decodes. `b1` is the second opcode byte or the first operand byte; what lies beyond the
instruction's length (R105) is not looked at. Operands are little-endian (20_memory.md R64). -/
def decodeInstr (op b1 b2 : Byte) : Instr :=
  match fieldX op with
  | 0 => decodeX0 (fieldY op) (fieldZ op) b1 b2
  | 1 => rowLd (R8.ofCode (fieldY op)) (R8.ofCode (fieldZ op))
  | 2 => rowAlu (Alu.ofCode (fieldY op)) (R8.ofCode (fieldZ op))
  | _ => decodeX3 (fieldY op) (fieldZ op) b1 b2

/-- Length in bytes of quadrant 0 (30_encoding.md R91, R100). -/
def lenX0 (y z : Octal) : Nat :=
  match z with
  | .n0 =>
    match y with
    | .n0 => 1
    | .n1 => 3
    | _ => 2
  | .n1 => if y.q then 1 else 3
  | .n6 => 2
  | .n2 | .n3 | .n4 | .n5 | .n7 => 1

/-- Length in bytes of quadrant 3 (30_encoding.md R91, R100). -/
def lenX3 (y z : Octal) : Nat :=
  match z with
  | .n0 =>
    match y with
    | .n0 | .n1 | .n2 | .n3 => 1
    | .n4 | .n5 | .n6 | .n7 => 2
  | .n1 | .n7 => 1
  | .n2 =>
    match y with
    | .n0 | .n1 | .n2 | .n3 | .n5 | .n7 => 3
    | .n4 | .n6 => 1
  | .n3 =>
    match y with
    | .n0 => 3
    | .n1 => 2
    | _ => 1
  | .n4 =>
    match y with
    | .n0 | .n1 | .n2 | .n3 => 3
    | .n4 | .n5 | .n6 | .n7 => 1
  | .n5 =>
    match y with
    | .n1 => 3
    | _ => 1
  | .n6 => 2

/-- "The first byte alone determines the length" (30_encoding.md R105): 1, 2 or 3; 2 for the prefix 0xCB. -/
def instrLen (op : Byte) : Nat :=
  match fieldX op with
  | 0 => lenX0 (fieldY op) (fieldZ op)
  | 1 => 1
  | 2 => 1
  | _ => lenX3 (fieldY op) (fieldZ op)

/-- Why a list of bytes does not begin with an instruction. No byte value is refused (30_encoding.md R92): the
list is only too short. -/
inductive DecodeError where
  | empty
  | truncated (op : Byte)
deriving DecidableEq, Repr

/-- What reading an instruction from a list of bytes gives: the instruction and the bytes after it, or the
reason there is none. -/
inductive Decoded where
  | ok (i : Instr) (rest : List Byte)
  | error (e : DecodeError)
deriving DecidableEq, Repr

/-- The instruction a list of bytes begins with, and the rest of the list (30_encoding.md R90, R105). -/
def decode : List Byte → Decoded
  | [] => .error .empty
  | op :: rest =>
    match instrLen op with
    | 1 => .ok (decodeInstr op 0 0) rest
    | 2 =>
      match rest with
      | b1 :: rest => .ok (decodeInstr op b1 0) rest
      | [] => .error (.truncated op)
    | _ =>
      match rest with
      | b1 :: b2 :: rest => .ok (decodeInstr op b1 b2) rest
      | _ => .error (.truncated op)

/-- The bytes of an instruction in stream order: the full listing of 30_encoding.md R100 and the map of R101.
The prefix entry alone is the byte 0xCB; it is no complete instruction (`Instr.wf`). -/
def encode : Instr → List Byte
  | .ldBcD16 w => [0x01, lo8 w, hi8 w]
  | .ldBD8 v => [0x06, v]
  | .ldMemA16Sp w => [0x08, lo8 w, hi8 w]
  | .ldCD8 v => [0x0E, v]
  | .stop v => [0x10, v]
  | .ldDeD16 w => [0x11, lo8 w, hi8 w]
  | .ldDD8 v => [0x16, v]
  | .jrE8 v => [0x18, v]
  | .ldED8 v => [0x1E, v]
  | .jrNzE8 v => [0x20, v]
  | .ldHlD16 w => [0x21, lo8 w, hi8 w]
  | .ldHD8 v => [0x26, v]
  | .jrZE8 v => [0x28, v]
  | .ldLD8 v => [0x2E, v]
  | .jrNcE8 v => [0x30, v]
  | .ldSpD16 w => [0x31, lo8 w, hi8 w]
  | .ldMemHlD8 v => [0x36, v]
  | .jrCE8 v => [0x38, v]
  | .ldAD8 v => [0x3E, v]
  | .jpNzA16 w => [0xC2, lo8 w, hi8 w]
  | .jpA16 w => [0xC3, lo8 w, hi8 w]
  | .callNzA16 w => [0xC4, lo8 w, hi8 w]
  | .addAD8 v => [0xC6, v]
  | .jpZA16 w => [0xCA, lo8 w, hi8 w]
  | .callZA16 w => [0xCC, lo8 w, hi8 w]
  | .callA16 w => [0xCD, lo8 w, hi8 w]
  | .adcAD8 v => [0xCE, v]
  | .jpNcA16 w => [0xD2, lo8 w, hi8 w]
  | .callNcA16 w => [0xD4, lo8 w, hi8 w]
  | .subD8 v => [0xD6, v]
  | .jpCA16 w => [0xDA, lo8 w, hi8 w]
  | .callCA16 w => [0xDC, lo8 w, hi8 w]
  | .sbcAD8 v => [0xDE, v]
  | .ldhMemA8A v => [0xE0, v]
  | .andD8 v => [0xE6, v]
  | .addSpE8 v => [0xE8, v]
  | .ldMemA16A w => [0xEA, lo8 w, hi8 w]
  | .xorD8 v => [0xEE, v]
  | .ldhAMemA8 v => [0xF0, v]
  | .orD8 v => [0xF6, v]
  | .ldHlSpE8 v => [0xF8, v]
  | .ldAMemA16 w => [0xFA, lo8 w, hi8 w]
  | .cpD8 v => [0xFE, v]
  | .nop => [0x00]
  | .ldMemBcA => [0x02]
  | .incBc => [0x03]
  | .incB => [0x04]
  | .decB => [0x05]
  | .rlca => [0x07]
  | .addHlBc => [0x09]
  | .ldAMemBc => [0x0A]
  | .decBc => [0x0B]
  | .incC => [0x0C]
  | .decC => [0x0D]
  | .rrca => [0x0F]
  | .ldMemDeA => [0x12]
  | .incDe => [0x13]
  | .incD => [0x14]
  | .decD => [0x15]
  | .rla => [0x17]
  | .addHlDe => [0x19]
  | .ldAMemDe => [0x1A]
  | .decDe => [0x1B]
  | .incE => [0x1C]
  | .decE => [0x1D]
  | .rra => [0x1F]
  | .ldMemHlIncA => [0x22]
  | .incHl => [0x23]
  | .incH => [0x24]
  | .decH => [0x25]
  | .daa => [0x27]
  | .addHlHl => [0x29]
  | .ldAMemHlInc => [0x2A]
  | .decHl => [0x2B]
  | .incL => [0x2C]
  | .decL => [0x2D]
  | .cpl => [0x2F]
  | .ldMemHlDecA => [0x32]
  | .incSp => [0x33]
  | .incMemHl => [0x34]
  | .decMemHl => [0x35]
  | .scf => [0x37]
  | .addHlSp => [0x39]
  | .ldAMemHlDec => [0x3A]
  | .decSp => [0x3B]
  | .incA => [0x3C]
  | .decA => [0x3D]
  | .ccf => [0x3F]
  | .ldBB => [0x40]
  | .ldBC => [0x41]
  | .ldBD => [0x42]
  | .ldBE => [0x43]
  | .ldBH => [0x44]
  | .ldBL => [0x45]
  | .ldBMemHl => [0x46]
  | .ldBA => [0x47]
  | .ldCB => [0x48]
  | .ldCC => [0x49]
  | .ldCD => [0x4A]
  | .ldCE => [0x4B]
  | .ldCH => [0x4C]
  | .ldCL => [0x4D]
  | .ldCMemHl => [0x4E]
  | .ldCA => [0x4F]
  | .ldDB => [0x50]
  | .ldDC => [0x51]
  | .ldDD => [0x52]
  | .ldDE => [0x53]
  | .ldDH => [0x54]
  | .ldDL => [0x55]
  | .ldDMemHl => [0x56]
  | .ldDA => [0x57]
  | .ldEB => [0x58]
  | .ldEC => [0x59]
  | .ldED => [0x5A]
  | .ldEE => [0x5B]
  | .ldEH => [0x5C]
  | .ldEL => [0x5D]
  | .ldEMemHl => [0x5E]
  | .ldEA => [0x5F]
  | .ldHB => [0x60]
  | .ldHC => [0x61]
  | .ldHD => [0x62]
  | .ldHE => [0x63]
  | .ldHH => [0x64]
  | .ldHL => [0x65]
  | .ldHMemHl => [0x66]
  | .ldHA => [0x67]
  | .ldLB => [0x68]
  | .ldLC => [0x69]
  | .ldLD => [0x6A]
  | .ldLE => [0x6B]
  | .ldLH => [0x6C]
  | .ldLL => [0x6D]
  | .ldLMemHl => [0x6E]
  | .ldLA => [0x6F]
  | .ldMemHlB => [0x70]
  | .ldMemHlC => [0x71]
  | .ldMemHlD => [0x72]
  | .ldMemHlE => [0x73]
  | .ldMemHlH => [0x74]
  | .ldMemHlL => [0x75]
  | .halt => [0x76]
  | .ldMemHlA => [0x77]
  | .ldAB => [0x78]
  | .ldAC => [0x79]
  | .ldAD => [0x7A]
  | .ldAE => [0x7B]
  | .ldAH => [0x7C]
  | .ldAL => [0x7D]
  | .ldAMemHl => [0x7E]
  | .ldAA => [0x7F]
  | .addAB => [0x80]
  | .addAC => [0x81]
  | .addAD => [0x82]
  | .addAE => [0x83]
  | .addAH => [0x84]
  | .addAL => [0x85]
  | .addAMemHl => [0x86]
  | .addAA => [0x87]
  | .adcAB => [0x88]
  | .adcAC => [0x89]
  | .adcAD => [0x8A]
  | .adcAE => [0x8B]
  | .adcAH => [0x8C]
  | .adcAL => [0x8D]
  | .adcAMemHl => [0x8E]
  | .adcAA => [0x8F]
  | .subB => [0x90]
  | .subC => [0x91]
  | .subD => [0x92]
  | .subE => [0x93]
  | .subH => [0x94]
  | .subL => [0x95]
  | .subMemHl => [0x96]
  | .subA => [0x97]
  | .sbcAB => [0x98]
  | .sbcAC => [0x99]
  | .sbcAD => [0x9A]
  | .sbcAE => [0x9B]
  | .sbcAH => [0x9C]
  | .sbcAL => [0x9D]
  | .sbcAMemHl => [0x9E]
  | .sbcAA => [0x9F]
  | .andB => [0xA0]
  | .andC => [0xA1]
  | .andD => [0xA2]
  | .andE => [0xA3]
  | .andH => [0xA4]
  | .andL => [0xA5]
  | .andMemHl => [0xA6]
  | .andA => [0xA7]
  | .xorB => [0xA8]
  | .xorC => [0xA9]
  | .xorD => [0xAA]
  | .xorE => [0xAB]
  | .xorH => [0xAC]
  | .xorL => [0xAD]
  | .xorMemHl => [0xAE]
  | .xorA => [0xAF]
  | .orB => [0xB0]
  | .orC => [0xB1]
  | .orD => [0xB2]
  | .orE => [0xB3]
  | .orH => [0xB4]
  | .orL => [0xB5]
  | .orMemHl => [0xB6]
  | .orA => [0xB7]
  | .cpB => [0xB8]
  | .cpC => [0xB9]
  | .cpD => [0xBA]
  | .cpE => [0xBB]
  | .cpH => [0xBC]
  | .cpL => [0xBD]
  | .cpMemHl => [0xBE]
  | .cpA => [0xBF]
  | .retNz => [0xC0]
  | .popBc => [0xC1]
  | .pushBc => [0xC5]
  | .rst00H => [0xC7]
  | .retZ => [0xC8]
  | .ret => [0xC9]
  | .prefixCb => [0xCB]
  | .rst08H => [0xCF]
  | .retNc => [0xD0]
  | .popDe => [0xD1]
  | .invalidD3 => [0xD3]
  | .pushDe => [0xD5]
  | .rst10H => [0xD7]
  | .retC => [0xD8]
  | .reti => [0xD9]
  | .invalidDB => [0xDB]
  | .invalidDD => [0xDD]
  | .rst18H => [0xDF]
  | .popHl => [0xE1]
  | .ldMemCA => [0xE2]
  | .invalidE3 => [0xE3]
  | .invalidE4 => [0xE4]
  | .pushHl => [0xE5]
  | .rst20H => [0xE7]
  | .jpHl => [0xE9]
  | .invalidEB => [0xEB]
  | .invalidEC => [0xEC]
  | .invalidED => [0xED]
  | .rst28H => [0xEF]
  | .popAf => [0xF1]
  | .ldAMemC => [0xF2]
  | .di => [0xF3]
  | .invalidF4 => [0xF4]
  | .pushAf => [0xF5]
  | .rst30H => [0xF7]
  | .ldSpHl => [0xF9]
  | .ei => [0xFB]
  | .invalidFC => [0xFC]
  | .invalidFD => [0xFD]
  | .rst38H => [0xFF]
  | .rlcB => [0xCB, 0x00]
  | .rlcC => [0xCB, 0x01]
  | .rlcD => [0xCB, 0x02]
  | .rlcE => [0xCB, 0x03]
  | .rlcH => [0xCB, 0x04]
  | .rlcL => [0xCB, 0x05]
  | .rlcMemHl => [0xCB, 0x06]
  | .rlcA => [0xCB, 0x07]
  | .rrcB => [0xCB, 0x08]
  | .rrcC => [0xCB, 0x09]
  | .rrcD => [0xCB, 0x0A]
  | .rrcE => [0xCB, 0x0B]
  | .rrcH => [0xCB, 0x0C]
  | .rrcL => [0xCB, 0x0D]
  | .rrcMemHl => [0xCB, 0x0E]
  | .rrcA => [0xCB, 0x0F]
  | .rlB => [0xCB, 0x10]
  | .rlC => [0xCB, 0x11]
  | .rlD => [0xCB, 0x12]
  | .rlE => [0xCB, 0x13]
  | .rlH => [0xCB, 0x14]
  | .rlL => [0xCB, 0x15]
  | .rlMemHl => [0xCB, 0x16]
  | .rlA => [0xCB, 0x17]
  | .rrB => [0xCB, 0x18]
  | .rrC => [0xCB, 0x19]
  | .rrD => [0xCB, 0x1A]
  | .rrE => [0xCB, 0x1B]
  | .rrH => [0xCB, 0x1C]
  | .rrL => [0xCB, 0x1D]
  | .rrMemHl => [0xCB, 0x1E]
  | .rrA => [0xCB, 0x1F]
  | .slaB => [0xCB, 0x20]
  | .slaC => [0xCB, 0x21]
  | .slaD => [0xCB, 0x22]
  | .slaE => [0xCB, 0x23]
  | .slaH => [0xCB, 0x24]
  | .slaL => [0xCB, 0x25]
  | .slaMemHl => [0xCB, 0x26]
  | .slaA => [0xCB, 0x27]
  | .sraB => [0xCB, 0x28]
  | .sraC => [0xCB, 0x29]
  | .sraD => [0xCB, 0x2A]
  | .sraE => [0xCB, 0x2B]
  | .sraH => [0xCB, 0x2C]
  | .sraL => [0xCB, 0x2D]
  | .sraMemHl => [0xCB, 0x2E]
  | .sraA => [0xCB, 0x2F]
  | .swapB => [0xCB, 0x30]
  | .swapC => [0xCB, 0x31]
  | .swapD => [0xCB, 0x32]
  | .swapE => [0xCB, 0x33]
  | .swapH => [0xCB, 0x34]
  | .swapL => [0xCB, 0x35]
  | .swapMemHl => [0xCB, 0x36]
  | .swapA => [0xCB, 0x37]
  | .srlB => [0xCB, 0x38]
  | .srlC => [0xCB, 0x39]
  | .srlD => [0xCB, 0x3A]
  | .srlE => [0xCB, 0x3B]
  | .srlH => [0xCB, 0x3C]
  | .srlL => [0xCB, 0x3D]
  | .srlMemHl => [0xCB, 0x3E]
  | .srlA => [0xCB, 0x3F]
  | .bit0B => [0xCB, 0x40]
  | .bit0C => [0xCB, 0x41]
  | .bit0D => [0xCB, 0x42]
  | .bit0E => [0xCB, 0x43]
  | .bit0H => [0xCB, 0x44]
  | .bit0L => [0xCB, 0x45]
  | .bit0MemHl => [0xCB, 0x46]
  | .bit0A => [0xCB, 0x47]
  | .bit1B => [0xCB, 0x48]
  | .bit1C => [0xCB, 0x49]
  | .bit1D => [0xCB, 0x4A]
  | .bit1E => [0xCB, 0x4B]
  | .bit1H => [0xCB, 0x4C]
  | .bit1L => [0xCB, 0x4D]
  | .bit1MemHl => [0xCB, 0x4E]
  | .bit1A => [0xCB, 0x4F]
  | .bit2B => [0xCB, 0x50]
  | .bit2C => [0xCB, 0x51]
  | .bit2D => [0xCB, 0x52]
  | .bit2E => [0xCB, 0x53]
  | .bit2H => [0xCB, 0x54]
  | .bit2L => [0xCB, 0x55]
  | .bit2MemHl => [0xCB, 0x56]
  | .bit2A => [0xCB, 0x57]
  | .bit3B => [0xCB, 0x58]
  | .bit3C => [0xCB, 0x59]
  | .bit3D => [0xCB, 0x5A]
  | .bit3E => [0xCB, 0x5B]
  | .bit3H => [0xCB, 0x5C]
  | .bit3L => [0xCB, 0x5D]
  | .bit3MemHl => [0xCB, 0x5E]
  | .bit3A => [0xCB, 0x5F]
  | .bit4B => [0xCB, 0x60]
  | .bit4C => [0xCB, 0x61]
  | .bit4D => [0xCB, 0x62]
  | .bit4E => [0xCB, 0x63]
  | .bit4H => [0xCB, 0x64]
  | .bit4L => [0xCB, 0x65]
  | .bit4MemHl => [0xCB, 0x66]
  | .bit4A => [0xCB, 0x67]
  | .bit5B => [0xCB, 0x68]
  | .bit5C => [0xCB, 0x69]
  | .bit5D => [0xCB, 0x6A]
  | .bit5E => [0xCB, 0x6B]
  | .bit5H => [0xCB, 0x6C]
  | .bit5L => [0xCB, 0x6D]
  | .bit5MemHl => [0xCB, 0x6E]
  | .bit5A => [0xCB, 0x6F]
  | .bit6B => [0xCB, 0x70]
  | .bit6C => [0xCB, 0x71]
  | .bit6D => [0xCB, 0x72]
  | .bit6E => [0xCB, 0x73]
  | .bit6H => [0xCB, 0x74]
  | .bit6L => [0xCB, 0x75]
  | .bit6MemHl => [0xCB, 0x76]
  | .bit6A => [0xCB, 0x77]
  | .bit7B => [0xCB, 0x78]
  | .bit7C => [0xCB, 0x79]
  | .bit7D => [0xCB, 0x7A]
  | .bit7E => [0xCB, 0x7B]
  | .bit7H => [0xCB, 0x7C]
  | .bit7L => [0xCB, 0x7D]
  | .bit7MemHl => [0xCB, 0x7E]
  | .bit7A => [0xCB, 0x7F]
  | .res0B => [0xCB, 0x80]
  | .res0C => [0xCB, 0x81]
  | .res0D => [0xCB, 0x82]
  | .res0E => [0xCB, 0x83]
  | .res0H => [0xCB, 0x84]
  | .res0L => [0xCB, 0x85]
  | .res0MemHl => [0xCB, 0x86]
  | .res0A => [0xCB, 0x87]
  | .res1B => [0xCB, 0x88]
  | .res1C => [0xCB, 0x89]
  | .res1D => [0xCB, 0x8A]
  | .res1E => [0xCB, 0x8B]
  | .res1H => [0xCB, 0x8C]
  | .res1L => [0xCB, 0x8D]
  | .res1MemHl => [0xCB, 0x8E]
  | .res1A => [0xCB, 0x8F]
  | .res2B => [0xCB, 0x90]
  | .res2C => [0xCB, 0x91]
  | .res2D => [0xCB, 0x92]
  | .res2E => [0xCB, 0x93]
  | .res2H => [0xCB, 0x94]
  | .res2L => [0xCB, 0x95]
  | .res2MemHl => [0xCB, 0x96]
  | .res2A => [0xCB, 0x97]
  | .res3B => [0xCB, 0x98]
  | .res3C => [0xCB, 0x99]
  | .res3D => [0xCB, 0x9A]
  | .res3E => [0xCB, 0x9B]
  | .res3H => [0xCB, 0x9C]
  | .res3L => [0xCB, 0x9D]
  | .res3MemHl => [0xCB, 0x9E]
  | .res3A => [0xCB, 0x9F]
  | .res4B => [0xCB, 0xA0]
  | .res4C => [0xCB, 0xA1]
  | .res4D => [0xCB, 0xA2]
  | .res4E => [0xCB, 0xA3]
  | .res4H => [0xCB, 0xA4]
  | .res4L => [0xCB, 0xA5]
  | .res4MemHl => [0xCB, 0xA6]
  | .res4A => [0xCB, 0xA7]
  | .res5B => [0xCB, 0xA8]
  | .res5C => [0xCB, 0xA9]
  | .res5D => [0xCB, 0xAA]
  | .res5E => [0xCB, 0xAB]
  | .res5H => [0xCB, 0xAC]
  | .res5L => [0xCB, 0xAD]
  | .res5MemHl => [0xCB, 0xAE]
  | .res5A => [0xCB, 0xAF]
  | .res6B => [0xCB, 0xB0]
  | .res6C => [0xCB, 0xB1]
  | .res6D => [0xCB, 0xB2]
  | .res6E => [0xCB, 0xB3]
  | .res6H => [0xCB, 0xB4]
  | .res6L => [0xCB, 0xB5]
  | .res6MemHl => [0xCB, 0xB6]
  | .res6A => [0xCB, 0xB7]
  | .res7B => [0xCB, 0xB8]
  | .res7C => [0xCB, 0xB9]
  | .res7D => [0xCB, 0xBA]
  | .res7E => [0xCB, 0xBB]
  | .res7H => [0xCB, 0xBC]
  | .res7L => [0xCB, 0xBD]
  | .res7MemHl => [0xCB, 0xBE]
  | .res7A => [0xCB, 0xBF]
  | .set0B => [0xCB, 0xC0]
  | .set0C => [0xCB, 0xC1]
  | .set0D => [0xCB, 0xC2]
  | .set0E => [0xCB, 0xC3]
  | .set0H => [0xCB, 0xC4]
  | .set0L => [0xCB, 0xC5]
  | .set0MemHl => [0xCB, 0xC6]
  | .set0A => [0xCB, 0xC7]
  | .set1B => [0xCB, 0xC8]
  | .set1C => [0xCB, 0xC9]
  | .set1D => [0xCB, 0xCA]
  | .set1E => [0xCB, 0xCB]
  | .set1H => [0xCB, 0xCC]
  | .set1L => [0xCB, 0xCD]
  | .set1MemHl => [0xCB, 0xCE]
  | .set1A => [0xCB, 0xCF]
  | .set2B => [0xCB, 0xD0]
  | .set2C => [0xCB, 0xD1]
  | .set2D => [0xCB, 0xD2]
  | .set2E => [0xCB, 0xD3]
  | .set2H => [0xCB, 0xD4]
  | .set2L => [0xCB, 0xD5]
  | .set2MemHl => [0xCB, 0xD6]
  | .set2A => [0xCB, 0xD7]
  | .set3B => [0xCB, 0xD8]
  | .set3C => [0xCB, 0xD9]
  | .set3D => [0xCB, 0xDA]
  | .set3E => [0xCB, 0xDB]
  | .set3H => [0xCB, 0xDC]
  | .set3L => [0xCB, 0xDD]
  | .set3MemHl => [0xCB, 0xDE]
  | .set3A => [0xCB, 0xDF]
  | .set4B => [0xCB, 0xE0]
  | .set4C => [0xCB, 0xE1]
  | .set4D => [0xCB, 0xE2]
  | .set4E => [0xCB, 0xE3]
  | .set4H => [0xCB, 0xE4]
  | .set4L => [0xCB, 0xE5]
  | .set4MemHl => [0xCB, 0xE6]
  | .set4A => [0xCB, 0xE7]
  | .set5B => [0xCB, 0xE8]
  | .set5C => [0xCB, 0xE9]
  | .set5D => [0xCB, 0xEA]
  | .set5E => [0xCB, 0xEB]
  | .set5H => [0xCB, 0xEC]
  | .set5L => [0xCB, 0xED]
  | .set5MemHl => [0xCB, 0xEE]
  | .set5A => [0xCB, 0xEF]
  | .set6B => [0xCB, 0xF0]
  | .set6C => [0xCB, 0xF1]
  | .set6D => [0xCB, 0xF2]
  | .set6E => [0xCB, 0xF3]
  | .set6H => [0xCB, 0xF4]
  | .set6L => [0xCB, 0xF5]
  | .set6MemHl => [0xCB, 0xF6]
  | .set6A => [0xCB, 0xF7]
  | .set7B => [0xCB, 0xF8]
  | .set7C => [0xCB, 0xF9]
  | .set7D => [0xCB, 0xFA]
  | .set7E => [0xCB, 0xFB]
  | .set7H => [0xCB, 0xFC]
  | .set7L => [0xCB, 0xFD]
  | .set7MemHl => [0xCB, 0xFE]
  | .set7A => [0xCB, 0xFF]

/-! ### The opcode table's numbering of bits -/

/-- The bytes, in stream order, of an instruction whose bits spec/opcode_table.json numbers as `w`. A row of one
byte is that byte. The table's two-byte rows are the secondary ones, numbered with byte 0, the 0xCB, in the upper
8 bits (30_encoding.md R106); any other word is numbered from the low byte up. Bits the table does not give are 0
(log 16). -/
def tableBytes (nbits w : Nat) : List Byte :=
  if nbits = 16 ∧ w / 256 % 256 = 0xCB then
    [0xCB, BitVec.ofNat 8 w, 0]
  else
    [BitVec.ofNat 8 w, BitVec.ofNat 8 (w / 256), BitVec.ofNat 8 (w / 65536)]

/-- The instruction the decoder reads from an instruction whose bits are `w`, numbered as the table numbers
them. -/
def decodeTableWord (nbits w : Nat) : Option Instr :=
  match decode (tableBytes nbits w) with
  | .ok i _ => some i
  | .error _ => none

end Sys2Proof
end

