-- ==== Sys2Proof/Config.lean ====
section
/-! DEFINITION. What an implementation fixes: the spec's OPEN parameters as named arguments of the model
(00_scope.md R7), its reset parameters, and the free value. -/
namespace Sys2Proof

/-- `INVALID_OPCODE_BEHAVIOUR` (00_scope.md R7; 92_eei_decisions.md D5): what the eleven invalid opcodes do. -/
inductive InvalidBehaviour where
  | nop | fault
deriving DecidableEq, Repr

/-- `STOP_BEHAVIOUR` (44_interrupt_halt_misc.md R254; 92_eei_decisions.md D6). -/
inductive StopBehaviour where
  | refuse | nop2 | invalid
deriving DecidableEq, Repr

/-- `HALTBUG_CONDITION` (92_eei_decisions.md D14): what sets the halt-bug latch. -/
inductive HaltbugCondition where
  | envOnly | lr35902
deriving DecidableEq, Repr

/-- The cycle tables `CYC_BASE`, `CYC_CB` and, per family, `CYC_TAKEN_DELTA` (92_eei_decisions.md D16;
70_reset_and_hazards.md R411), the first two indexed by the opcode byte. -/
structure CycleTables where
  base : List Nat
  cb : List Nat
  takenJr : Nat
  takenJp : Nat
  takenCall : Nat
  takenRet : Nat
deriving DecidableEq, Repr

/-- The OPEN parameters of 00_scope.md R7, fixed for a run (log 6). -/
structure Params where
  /-- `INVALID_OPCODE_BEHAVIOUR` (D5). -/
  invalidOpcode : InvalidBehaviour
  /-- `STOP_BEHAVIOUR` (D6). -/
  stop : StopBehaviour
  /-- `HALT_WAKE_WITHOUT_IME` (D13). -/
  haltWakeWithoutIme : Bool
  /-- `HALTBUG_CONDITION` (D14). -/
  haltbugCondition : HaltbugCondition
  /-- `HALT_TICK` (D15): the cycles a step reports while halted. -/
  haltTick : Nat
  /-- `INT_DISPATCH_CYCLES` (D28). -/
  intDispatchCycles : Nat
  /-- `CYC_BASE`, `CYC_CB` and `CYC_TAKEN_DELTA` (D16). -/
  cyc : CycleTables
deriving DecidableEq, Repr

/-- `RESET_PC` (10_state.md R42; 92_eei_decisions.md D17). -/
def Config.resetPc : Word := 0x0000

/-- `RESET_IME` (10_state.md R42; 92_eei_decisions.md D18). -/
def Config.resetIme : Bool := false

/-- FREE VALUE (log 4): the bytes that the reset event leaves "unspecified" (10_state.md R42;
70_reset_and_hazards.md R390), applied to a counter of State. It has no body, so nothing can be proved of a value
of it. -/
opaque Config.freeByte : Nat → Byte

/-- The five interrupt sources, in MB's order (60_exceptions.md R354). -/
inductive Source where
  | vblank | lcdStat | timer | serial | joypad
deriving DecidableEq, Repr

end Sys2Proof
end

