-- ==== Sys2Proof/Machine/Timing.lean ====
section
/-! DEFINITION. The defaults of the OPEN parameters (00_scope.md R7), the cycle tables of 70_reset_and_hazards.md R411
among them (log 11), and the base count of an instruction. No transition reads a count (R410). -/
namespace Sys2Proof

/-- `CYC_BASE`, one list per high nibble (70_reset_and_hazards.md R411); the untaken count for a conditional
transfer. -/
def cycBaseRows : List (List Nat) :=
  [ [4, 12, 8, 8, 4, 4, 8, 4, 20, 8, 8, 8, 4, 4, 8, 4],
    [4, 12, 8, 8, 4, 4, 8, 4, 12, 8, 8, 8, 4, 4, 8, 4],
    [8, 12, 8, 8, 4, 4, 8, 4, 8, 8, 8, 8, 4, 4, 8, 4],
    [8, 12, 8, 8, 12, 12, 12, 4, 8, 8, 8, 8, 4, 4, 8, 4],
    [4, 4, 4, 4, 4, 4, 8, 4, 4, 4, 4, 4, 4, 4, 8, 4],
    [4, 4, 4, 4, 4, 4, 8, 4, 4, 4, 4, 4, 4, 4, 8, 4],
    [4, 4, 4, 4, 4, 4, 8, 4, 4, 4, 4, 4, 4, 4, 8, 4],
    [8, 8, 8, 8, 8, 8, 4, 8, 4, 4, 4, 4, 4, 4, 8, 4],
    [4, 4, 4, 4, 4, 4, 8, 4, 4, 4, 4, 4, 4, 4, 8, 4],
    [4, 4, 4, 4, 4, 4, 8, 4, 4, 4, 4, 4, 4, 4, 8, 4],
    [4, 4, 4, 4, 4, 4, 8, 4, 4, 4, 4, 4, 4, 4, 8, 4],
    [4, 4, 4, 4, 4, 4, 8, 4, 4, 4, 4, 4, 4, 4, 8, 4],
    [8, 12, 12, 16, 12, 16, 8, 16, 8, 16, 12, 0, 12, 24, 8, 16],
    [8, 12, 12, 4, 12, 16, 8, 16, 8, 16, 12, 4, 12, 4, 8, 16],
    [12, 12, 8, 4, 4, 16, 8, 16, 16, 4, 16, 4, 4, 4, 8, 16],
    [12, 12, 8, 4, 4, 16, 8, 16, 12, 8, 16, 4, 4, 4, 8, 16] ]

/-- `CYC_CB`, one list per operation (70_reset_and_hazards.md R411): 8, and for the (HL) forms 16, or 12 for BIT. -/
def cycCbRows : List (List Nat) :=
  List.replicate 8 [8, 8, 8, 8, 8, 8, 16, 8] ++ List.replicate 8 [8, 8, 8, 8, 8, 8, 12, 8] ++
  List.replicate 16 [8, 8, 8, 8, 8, 8, 16, 8]

/-- The tables of 70_reset_and_hazards.md R411 (log 11). -/
def CycleTables.default : CycleTables where
  base := cycBaseRows.flatten
  cb := cycCbRows.flatten
  takenJr := 4
  takenJp := 4
  takenCall := 12
  takenRet := 12

/-- The defaults of 00_scope.md R7 but for `STOP_BEHAVIOUR`, whose default there is `refuse`; the model starts
with the choice that gives STOP an effect (DESIGN CHOICE, unsafe: log 5). -/
def Params.default : Params where
  invalidOpcode := .nop
  stop := .nop2
  haltWakeWithoutIme := false
  haltbugCondition := .envOnly
  haltTick := 4
  intDispatchCycles := 20
  cyc := CycleTables.default

end Sys2Proof

namespace Sys2Proof.Machine

/-- The base count of the instruction whose opcode byte is `op`, followed by `b1` (60_exceptions.md R352). -/
def baseCycles (c : CycleTables) (op b1 : Byte) : Nat :=
  if op = 0xCB then c.cb.getD b1.toNat 0 else c.base.getD op.toNat 0

end Sys2Proof.Machine
end

