-- ==== Sys2Proof/Machine/State.lean ====
section
/-! DEFINITION. The state of the machine as plain data (10_state.md), the reasons a step can stop, and the state
after reset. -/
namespace Sys2Proof.Machine

/-- Why the machine stops with a fault. The spec has no synchronous exception (60_exceptions.md R351). -/
inductive Fault where
  /-- Raised by the meanings of the eleven invalid opcodes, and by STOP's under `STOP_BEHAVIOUR = invalid`, when
  `INVALID_OPCODE_BEHAVIOUR = fault`: "a model turns the record into a fault that ends the run" (60_exceptions.md
  R350; 92_eei_decisions.md D5). It carries the record. Safe: the model stops. -/
  | invalidOpcode (addr : Word) (op : Byte)
deriving DecidableEq, Repr

/-- Why an instruction has no meaning. -/
inductive Refusal where
  /-- Raised by an arm of `exec` that gives its instruction no meaning yet. Safe: the model stops. -/
  | notModelled (mnemonic : String)
  /-- Raised by STOP's meaning when `STOP_BEHAVIOUR = refuse`: "the model gives the instruction no meaning"
  (44_interrupt_halt_misc.md R254). Safe: the model stops. -/
  | stopRefused
deriving DecidableEq, Repr

/-- One access of the bus (20_memory.md R61, R62): every access moves one byte (R70). -/
inductive BusEvent where
  | read (addr : Word) (value : Byte)
  | write (addr : Word) (value : Byte)
deriving DecidableEq, Repr

/-- One entry of the trace log, "(address, opcode bytes, human-readable mnemonic)" (60_exceptions.md R380), with
the instruction itself for its mnemonic (log 10). -/
structure TraceEntry where
  addr : Word
  bytes : List Byte
  instr : Instr
deriving DecidableEq, Repr

/-- The diagnostic record `InvalidOpcode(addr, byte)` (60_exceptions.md R350). -/
structure InvalidRecord where
  addr : Word
  op : Byte
deriving DecidableEq, Repr

/-- What a machine cycle hands to the environment (60_exceptions.md R371). No rule reads it (log 10). -/
structure Output where
  /-- `iaddr`: the PC captured at the start of the step (60_exceptions.md R352). -/
  iaddr : Word
  /-- The bus accesses of the cycle, oldest first (20_memory.md R80). -/
  bus : List BusEvent
  /-- The trace entry of a fetching step (60_exceptions.md R380). -/
  trace : Option TraceEntry
  /-- The diagnostic record of an invalid opcode (60_exceptions.md R350). -/
  invalid : Option InvalidRecord
  /-- The count `Step()` returned (60_exceptions.md R352). -/
  cycles : Nat
  /-- The count `InterruptCheck()` returned (60_exceptions.md R353, R359). -/
  dispatchCycles : Nat
deriving DecidableEq, Repr

/-- The outputs before anything happened in a machine cycle that starts at `pc`. -/
def Output.start (pc : Word) : Output where
  iaddr := pc
  bus := []
  trace := none
  invalid := none
  cycles := 0
  dispatchCycles := 0

/-- The bytes the bus presents, as (address, byte) pairs: addresses strictly rising, none listed that holds what
an unlisted address reads as. -/
abbrev Memory := List Host.Cell

/-- A change of bus-owned state that is no access of the core (20_memory.md R63; 60_exceptions.md R371). -/
inductive BusChange where
  /-- The bits of `mask` at `addr` become those of `value`: a pending bit of IF (60_exceptions.md R356), a register
  of a device. -/
  | put (addr : Word) (mask value : Byte)
  /-- The `len` bytes at `src` and after appear at `dst` and after, the lowest address first. -/
  | copy (src dst : Word) (len : Nat)
  /-- The bus goes to another mode. -/
  | enter (mode : Nat)
deriving DecidableEq, Repr

/-- What the bus does with a write (20_memory.md R62, R63): the rule covers the writes of `value` (of any byte, for
`none`) to the addresses from `first` to `last` while the bus is in `mode` (in any mode, for `none`). The bits of
`stores` are stored at the address written, none of them where the write is ignored, and then the changes are
made. -/
structure BusRule where
  mode : Option Nat
  first : Word
  last : Word
  value : Option Byte
  stores : Byte
  changes : List BusChange
deriving DecidableEq, Repr

/-- The memory bus the model takes as a parameter (20_memory.md R60), as plain data (log 9): the byte each address
presents, what else it remembers, and what it does with a write. -/
structure Bus where
  /-- What a read returns at each address (R61). -/
  mem : Memory
  /-- The part of the bus's state that no read shows. -/
  mode : Nat
  /-- What a write does, the first rule that covers it; a write that none covers is stored. -/
  rules : List BusRule
deriving DecidableEq, Repr

/-- A bus of plain memory: every write is stored, and does nothing else (log 1). -/
def Bus.plain (m : Memory) : Bus := { mem := m, mode := 0, rules := [] }

/-- What the environment may do during `EnvAdvance` (60_exceptions.md R353, R371). -/
inductive EnvEvent where
  /-- It changes bus-owned state, a bit of IF among others (60_exceptions.md R356). -/
  | bus (change : BusChange)
  /-- It raises `haltbug_set` (60_exceptions.md R372). -/
  | haltbugSet
  /-- It applies reset (70_reset_and_hazards.md R390). -/
  | reset
deriving DecidableEq, Repr

/-- The state of the machine. -/
structure State where
  /-- The accumulator A (10_state.md R20). -/
  a : Byte
  /-- B (10_state.md R20). -/
  b : Byte
  /-- C (10_state.md R20). -/
  c : Byte
  /-- D (10_state.md R20). -/
  d : Byte
  /-- E (10_state.md R20). -/
  e : Byte
  /-- H (10_state.md R20). -/
  h : Byte
  /-- L (10_state.md R20). -/
  l : Byte
  /-- The flag byte F (10_state.md R28); bits 3..0 are hard-wired to 0 in `State.getF` and `State.setF` (R29). -/
  f : Byte
  /-- The stack pointer (10_state.md R25). -/
  sp : Word
  /-- The program counter (10_state.md R26). -/
  pc : Word
  /-- The master interrupt enable (10_state.md R32). -/
  ime : Bool
  /-- The halt flag (10_state.md R33). -/
  halted : Bool
  /-- The halt-bug latch (10_state.md R34). -/
  haltbug : Bool
  /-- The additional-cycles accumulator (10_state.md R35). -/
  addcyc : Nat
  /-- The bus, IF and IE among what it presents (20_memory.md R60; 10_state.md R36, R37; log 1, log 9). -/
  busState : Bus
  /-- The OPEN parameters (00_scope.md R7; log 6). -/
  params : Params
  /-- What the environment does at each coming `EnvAdvance`; nothing where the list has ended (log 8). -/
  env : List (List EnvEvent)
  /-- THE MODEL'S OWN: how many free values have been used (log 4). -/
  freeCount : Nat
  /-- The outputs of the machine cycle just made (log 10). -/
  out : Output
deriving DecidableEq, Repr

/-- The machine right after reset (10_state.md R42; 70_reset_and_hazards.md R390). PC, IME, HALTED, HALTBUG,
ADDCYC and F[3:0] are the spec's; A to L, F[7:4] and SP are "unspecified" there and 0 here (DESIGN CHOICE,
unsafe: log 3); the bus is plain memory (log 1) in which nothing is listed (log 2); the parameters are
`Params.default` (log 5, log 6); the environment is quiescent (log 8). -/
def State.reset : State where
  a := 0
  b := 0
  c := 0
  d := 0
  e := 0
  h := 0
  l := 0
  f := 0
  sp := 0
  pc := Config.resetPc
  ime := Config.resetIme
  halted := false
  haltbug := false
  addcyc := 0
  busState := Bus.plain []
  params := Params.default
  env := []
  freeCount := 0
  out := Output.start Config.resetPc

/-- The alternative entry state `ENTRY_STATE = post_boot` (70_reset_and_hazards.md R391): a launch premise of its
own, never a consequence of reset (log 19). R391 gives PC, SP, AF, BC, DE, HL and IME. DESIGN CHOICE, unsafe (log
19): HALTED = 0, HALTBUG = 0 and ADDCYC = 0, and the bus, the parameters, the environment, the counter of free values
and the empty outputs, are those of `State.reset`. -/
def State.postBoot : State :=
  { State.reset with
    a := 0x01, f := 0xB0, b := 0x00, c := 0x13, d := 0x00, e := 0xD8, h := 0x01, l := 0x4D
    sp := 0xFFFE, pc := 0x0100, ime := false, out := Output.start 0x0100 }

end Sys2Proof.Machine
end

