-- ==== Sys2Proof/Machine/Ops.lean ====
section
/-! DEFINITION. The named operations over memory, bus and registers: the primitives of 00_scope.md R10, the stack
(20_memory.md R68, R69), taking an interrupt and returning from one (60_exceptions.md R359, R360;
43_control_flow.md R234), the reset event and `EnvAdvance`. -/
namespace Sys2Proof.Machine

/-- What a step, or the meaning of an instruction, ends in. -/
abbrev StepResult := Host.Outcome State Fault Refusal

/-! ### Fixed addresses -/

/-- `IF_ADDR` (10_state.md R36). -/
def ifAddr : Word := 0xFF0F

/-- `IE_ADDR` (10_state.md R37). -/
def ieAddr : Word := 0xFFFF

/-- `HIGH_PAGE_BASE` (45_load8.md R282). -/
def highPageBase : Word := 0xFF00

/-- `RST_VEC(t) = 8 × t` (43_control_flow.md R230). -/
def rstVec (t : Octal) : Word := BitVec.ofNat 16 (8 * t.toNat)

/-- `INT_BIT(s)` (60_exceptions.md R358). -/
def intBit : Source → Nat
  | .vblank => 0 | .lcdStat => 1 | .timer => 2 | .serial => 3 | .joypad => 4

/-- `INT_VEC(s)` (60_exceptions.md R358): the vector itself is the entry point. -/
def intVec : Source → Word
  | .vblank => 0x0040 | .lcdStat => 0x0048 | .timer => 0x0050 | .serial => 0x0058 | .joypad => 0x0060

/-! ### One setter per field -/

/-- `A <- v` (10_state.md R20). -/
def State.setA (s : State) (v : Byte) : State := { s with a := v }

/-- `B <- v` (10_state.md R20). -/
def State.setB (s : State) (v : Byte) : State := { s with b := v }

/-- `C <- v` (10_state.md R20). -/
def State.setC (s : State) (v : Byte) : State := { s with c := v }

/-- `D <- v` (10_state.md R20). -/
def State.setD (s : State) (v : Byte) : State := { s with d := v }

/-- `E <- v` (10_state.md R20). -/
def State.setE (s : State) (v : Byte) : State := { s with e := v }

/-- `H <- v` (10_state.md R20). -/
def State.setH (s : State) (v : Byte) : State := { s with h := v }

/-- `L <- v` (10_state.md R20). -/
def State.setL (s : State) (v : Byte) : State := { s with l := v }

/-- `SP <- v` (10_state.md R25). -/
def State.setSp (s : State) (v : Word) : State := { s with sp := v }

/-- `PC <- v` (10_state.md R26). -/
def State.setPc (s : State) (v : Word) : State := { s with pc := v }

/-- `IME <- v` (10_state.md R32). -/
def State.setIme (s : State) (v : Bool) : State := { s with ime := v }

/-- `HALTED <- v` (10_state.md R33). -/
def State.setHalted (s : State) (v : Bool) : State := { s with halted := v }

/-- `HALTBUG <- v` (10_state.md R34). -/
def State.setHaltbug (s : State) (v : Bool) : State := { s with haltbug := v }

/-- `ADDCYC <- v` (10_state.md R35). -/
def State.setAddcyc (s : State) (v : Nat) : State := { s with addcyc := v }

/-- `BUS <- v` (20_memory.md R60). -/
def State.setBusState (s : State) (v : Bus) : State := { s with busState := v }

/-- `ENV <- v` (log 8). -/
def State.setEnv (s : State) (v : List (List EnvEvent)) : State := { s with env := v }

/-- `OUT <- v` (log 10). -/
def State.setOut (s : State) (v : Output) : State := { s with out := v }

/-- `F <- v` stores `v & 0xF0` (10_state.md R29), whoever writes. -/
def State.setF (s : State) (v : Byte) : State := { s with f := v &&& 0xF0 }

/-- F as it reads: bits 3..0 "always" read 0 (10_state.md R29). -/
def State.getF (s : State) : Byte := s.f &&& 0xF0

/-- Add `n` to ADDCYC (10_state.md R35; 43_control_flow.md R233). -/
def State.addCycles (s : State) (n : Nat) : State := s.setAddcyc (s.addcyc + n)

/-! ### Register pairs (10_state.md R22, R23): views of the 8-bit registers, first-named register high -/

/-- The pair BC. -/
def State.bc (s : State) : Word := mk16 s.b s.c

/-- The pair DE. -/
def State.de (s : State) : Word := mk16 s.d s.e

/-- The pair HL. -/
def State.hl (s : State) : Word := mk16 s.h s.l

/-- The pair AF. -/
def State.af (s : State) : Word := mk16 s.a s.getF

/-- `BC <- w`. -/
def State.setBc (s : State) (w : Word) : State := (s.setB (hi8 w)).setC (lo8 w)

/-- `DE <- w`. -/
def State.setDe (s : State) (w : Word) : State := (s.setD (hi8 w)).setE (lo8 w)

/-- `HL <- w`. -/
def State.setHl (s : State) (w : Word) : State := (s.setH (hi8 w)).setL (lo8 w)

/-- `AF <- w`: the low four bits are dropped (10_state.md R22, R29). -/
def State.setAf (s : State) (w : Word) : State := (s.setA (hi8 w)).setF (lo8 w)

/-! ### Memory as data -/

/-- What an address that is not listed reads as (DESIGN CHOICE, unsafe: log 2). -/
def unlistedByte : Byte := 0x00

/-- The byte at address `k`. -/
def memLookup : Memory → Nat → Byte
  | [], _ => unlistedByte
  | (j, v) :: m, k => if j = k then v else memLookup m k

/-- `m` without the entry of address `k`. -/
def memErase : Memory → Nat → Memory
  | [], _ => []
  | (j, v) :: m, k => if j = k then memErase m k else (j, v) :: memErase m k

/-- `m` with an entry for address `k` put before the first higher address. -/
def memInsert : Memory → Nat → Byte → Memory
  | [], k, v => [(k, v)]
  | (j, w) :: m, k, v => if k < j then (k, v) :: (j, w) :: m else (j, w) :: memInsert m k v

/-- `m` after the byte `v` is stored at address `k`: storing what an unlisted address reads as removes the
entry. -/
def memStore (m : Memory) (k : Nat) (v : Byte) : Memory :=
  if v = unlistedByte then memErase m k else memInsert (memErase m k) k v

/-- Every address listed is at least `lo`, the addresses rise strictly and stay below 2^16, and no entry holds
what an unlisted address reads as. -/
def memWfFrom : Nat → Memory → Bool
  | _, [] => true
  | lo, (j, v) :: m => decide (lo ≤ j) && decide (j < 65536) && decide (v ≠ unlistedByte) && memWfFrom (j + 1) m

/-- The canonical form of memory. -/
def Memory.wf (m : Memory) : Bool := memWfFrom 0 m

/-! ### The bus as a parameter: its two operations (20_memory.md R60 to R63; log 9) -/

/-- `read(addr)` (20_memory.md R61): a function of the bus's state, which it leaves. -/
def busRead (b : Bus) (addr : Word) : Byte := memLookup b.mem addr.toNat

/-- The bus presents `v` at `addr` from now on. -/
def busPut (b : Bus) (addr : Word) (v : Byte) : Bus := { b with mem := memStore b.mem addr.toNat v }

/-- `old` with the bits of `mask` taken from `v`. -/
def mergeBits (mask v old : Byte) : Byte := (old &&& ~~~mask) ||| (v &&& mask)

/-- `len` bytes copied, one by one, the lowest address first. -/
def busCopy (b : Bus) (src dst : Word) : Nat → Bus
  | 0 => b
  | len + 1 => busCopy (busPut b dst (busRead b src)) (src + 1) (dst + 1) len

/-- One change of bus-owned state (20_memory.md R63; 60_exceptions.md R371). -/
def busChange (b : Bus) : BusChange → Bus
  | .put addr mask v => busPut b addr (mergeBits mask v (busRead b addr))
  | .copy src dst len => busCopy b src dst len
  | .enter n => { b with mode := n }

/-- Changes of bus-owned state, in order. -/
def busChanges (b : Bus) : List BusChange → Bus
  | [] => b
  | c :: cs => busChanges (busChange b c) cs

/-- Whether a rule covers the write of `v` to `addr` in mode `n`. -/
def ruleCovers (r : BusRule) (n : Nat) (addr : Word) (v : Byte) : Bool :=
  (r.mode == none || r.mode == some n) && decide (r.first.toNat ≤ addr.toNat) &&
    decide (addr.toNat ≤ r.last.toNat) && (r.value == none || r.value == some v)

/-- The first rule that covers the write. -/
def ruleFor (n : Nat) (addr : Word) (v : Byte) : List BusRule → Option BusRule
  | [] => none
  | r :: rs => if ruleCovers r n addr v then some r else ruleFor n addr v rs

/-- `write(addr, v)` (20_memory.md R62, R63): it may store the byte, some of its bits or nothing, and change any
bus-owned state, at once. -/
def busWrite (b : Bus) (addr : Word) (v : Byte) : Bus :=
  match ruleFor b.mode addr v b.rules with
  | none => busPut b addr v
  | some r => busChanges (busPut b addr (mergeBits r.stores v (busRead b addr))) r.changes

/-! ### The core's accesses of the bus -/

/-- The byte the bus presents at `addr`. -/
def State.peek (s : State) (addr : Word) : Byte := busRead s.busState addr

/-- Record an access of the bus. -/
def State.logBus (s : State) (e : BusEvent) : State := s.setOut { s.out with bus := s.out.bus ++ [e] }

/-- `MemRead(addr, 1)` (20_memory.md R61): pure but for the record of the access. -/
def State.memRead (s : State) (addr : Word) : Byte × State := (s.peek addr, s.logBus (.read addr (s.peek addr)))

/-- `MemWrite(addr, 1, v)` (20_memory.md R62, R63): the bus does what it does with the write before the next access,
and no state of the core changes. -/
def State.memWrite (s : State) (addr : Word) (v : Byte) : State :=
  (s.setBusState (busWrite s.busState addr v)).logBus (.write addr v)

/-- `MemWrite(addr, 2, w)` (20_memory.md R66): low byte at `addr`, then high byte at `addr +16 1`. -/
def State.memWrite16 (s : State) (addr : Word) (w : Word) : State :=
  (s.memWrite addr (lo8 w)).memWrite (addr + 1) (hi8 w)

/-- `Fetch8()` (30_encoding.md R96). -/
def State.fetch8 (s : State) : Byte × State :=
  let r := s.memRead s.pc
  (r.1, r.2.setPc (r.2.pc + 1))

/-- `Push16(w)` (20_memory.md R68): high byte first, at decremented SP. -/
def State.push16 (s : State) (w : Word) : State :=
  let s1 := s.setSp (s.sp - 1)
  let s2 := s1.memWrite s1.sp (hi8 w)
  let s3 := s2.setSp (s2.sp - 1)
  s3.memWrite s3.sp (lo8 w)

/-- `Pop16()` (20_memory.md R69): low byte first. -/
def State.pop16 (s : State) : Word × State :=
  let r1 := s.memRead s.sp
  let s1 := r1.2.setSp (r1.2.sp + 1)
  let r2 := s1.memRead s1.sp
  let s2 := r2.2.setSp (r2.2.sp + 1)
  (mk16 r2.1 r1.1, s2)

/-! ### Interrupts -/

/-- `IF & IE & 0x1F` (60_exceptions.md R359). -/
def State.pendingMask (s : State) : Byte := s.peek ifAddr &&& s.peek ieAddr &&& 0x1F

/-- The two reads of an interrupt check, IF and then IE (60_exceptions.md R359). -/
def State.readPending (s : State) : State := ((s.memRead ifAddr).2.memRead ieAddr).2

/-- `Highest(m)` (60_exceptions.md R357): the source of the least bit set in `m[4:0]`, none where there is
none. -/
def highest (m : Byte) : Option Source :=
  if m.getLsbD 0 then some .vblank
  else if m.getLsbD 1 then some .lcdStat
  else if m.getLsbD 2 then some .timer
  else if m.getLsbD 3 then some .serial
  else if m.getLsbD 4 then some .joypad
  else none

/-- `Dispatch(i, f)` (60_exceptions.md R360), THE exception entry of the machine: the halt flag and IME are
cleared, PC is pushed, the serviced bit of IF is cleared in the value `f` the check read, and PC becomes the
vector. -/
def State.dispatch (s : State) (src : Source) (f : Byte) : State :=
  let s1 := s.setHalted false
  let s2 := s1.setIme false
  let s3 := s2.push16 s2.pc
  let s4 := s3.memWrite ifAddr (f &&& ~~~(1#8 <<< intBit src))
  s4.setPc (intVec src)

/-- The return from an interrupt (43_control_flow.md R234; 60_exceptions.md R362): IME is set, then PC is popped;
nothing else is restored. -/
def State.returnFromInterrupt (s : State) : State :=
  let s1 := s.setIme true
  let r := s1.pop16
  r.2.setPc r.1

/-- `InterruptCheck()` (60_exceptions.md R359): the count it returns and the state after it. With IME = 0 the bus
is not read and nothing happens, but for `HALT_WAKE_WITHOUT_IME` (92_eei_decisions.md D13; log 13). -/
def State.interruptCheck (s : State) : Nat × State :=
  if s.ime then
    match highest s.pendingMask with
    | none => (0, s.readPending)
    | some src => (s.params.intDispatchCycles, s.readPending.dispatch src (s.peek ifAddr))
  else if s.params.haltWakeWithoutIme && s.halted then
    if s.pendingMask = 0 then (0, s.readPending) else (0, s.readPending.setHalted false)
  else (0, s)

/-! ### Reset and the environment -/

/-- `Reset()` as an event in a run (70_reset_and_hazards.md R390): it touches nothing on the bus. What it leaves
"unspecified" takes free values (log 4); F[3:0] is 0 (10_state.md R29). -/
def State.resetEvent (s : State) : State :=
  let v := fun k => Config.freeByte (s.freeCount + k)
  { s with
    a := v 0, b := v 1, c := v 2, d := v 3, e := v 4, h := v 5, l := v 6
    f := v 7 &&& 0xF0, sp := mk16 (v 8) (v 9)
    pc := Config.resetPc, ime := Config.resetIme, halted := false, haltbug := false, addcyc := 0
    freeCount := s.freeCount + 10 }

/-- One thing the environment does (60_exceptions.md R371, R372). What it changes on the bus is no access of the
core and is not recorded. -/
def State.envEvent (s : State) : EnvEvent → State
  | .bus c => s.setBusState (busChange s.busState c)
  | .haltbugSet => s.setHaltbug true
  | .reset => s.resetEvent

/-- What the environment does in one `EnvAdvance`, in its order. -/
def State.envEvents (s : State) : List EnvEvent → State
  | [] => s
  | e :: es => (s.envEvent e).envEvents es

/-- `EnvAdvance` (60_exceptions.md R353): the environment does the next entry of its list, nothing where the list
has ended (log 8). -/
def State.envAdvance (s : State) : State :=
  match s.env with
  | [] => s
  | es :: rest => (s.setEnv rest).envEvents es

end Sys2Proof.Machine
end

