-- ==== Sys2Proof/Machine/Flags.lean ====
section
/-! DEFINITION. The flags (10_state.md R28, R30), every flag computation, and the conditions (43 R220). -/
namespace Sys2Proof.Machine

/-! ### Reading and writing flags -/

/-- `F.Z`, bit 7 (10_state.md R28). -/
def State.flagZ (s : State) : Bool := s.getF.getLsbD 7

/-- `F.N`, bit 6 (10_state.md R28). -/
def State.flagN (s : State) : Bool := s.getF.getLsbD 6

/-- `F.H`, bit 5 (10_state.md R28). -/
def State.flagH (s : State) : Bool := s.getF.getLsbD 5

/-- `F.C`, bit 4 (10_state.md R28). -/
def State.flagC (s : State) : Bool := s.getF.getLsbD 4

/-- The flag byte with the four flags given (10_state.md R28, R29). -/
def packFlags (z n h c : Bool) : Byte :=
  BitVec.ofBool z ++ BitVec.ofBool n ++ BitVec.ofBool h ++ BitVec.ofBool c ++ 0#4

/-- All four flags written; an instruction that leaves one unchanged passes its value (10_state.md R30). -/
def State.withFlags (s : State) (z n h c : Bool) : State := s.setF (packFlags z n h c)

/-- `Cond(cc)` (43_control_flow.md R220). -/
def State.cond (s : State) : Cond → Bool
  | .nz => !s.flagZ
  | .z => s.flagZ
  | .nc => !s.flagC
  | .c => s.flagC

/-! ### 8-bit arithmetic and logic (40_alu8.md) -/

/-- What an 8-bit operation returns: a result and the four flag values. -/
structure AluResult where
  res : Byte
  z : Bool
  n : Bool
  h : Bool
  c : Bool
deriving DecidableEq, Repr

/-- `add8(a, v, cin)` (40_alu8.md R131). -/
def add8 (a v : Byte) (cin : Bool) : AluResult :=
  let sum := a.toNat + v.toNat + cin.toNat
  let res := BitVec.ofNat 8 sum
  { res := res
    z := decide (res = 0)
    n := false
    h := decide ((a &&& 0x0F).toNat + (v &&& 0x0F).toNat + cin.toNat > 0x0F)
    c := decide (sum > 0xFF) }

/-- `sub8(a, v, cin)` (40_alu8.md R132): H by the XOR form, C is the borrow. -/
def sub8 (a v : Byte) (cin : Bool) : AluResult :=
  let diff : Int := (a.toNat : Int) - (v.toNat : Int) - (cin.toNat : Int)
  let res := BitVec.ofInt 8 diff
  { res := res
    z := decide (res = 0)
    n := true
    h := decide ((a ^^^ v ^^^ res) &&& 0x10 ≠ 0)
    c := decide (diff < 0) }

/-- `and8(a, v)` (40_alu8.md R133). -/
def and8 (a v : Byte) : AluResult where
  res := a &&& v
  z := decide (a &&& v = 0)
  n := false
  h := true
  c := false

/-- `xor8(a, v)` (40_alu8.md R133). -/
def xor8 (a v : Byte) : AluResult where
  res := a ^^^ v
  z := decide (a ^^^ v = 0)
  n := false
  h := false
  c := false

/-- `or8(a, v)` (40_alu8.md R133). -/
def or8 (a v : Byte) : AluResult where
  res := a ||| v
  z := decide (a ||| v = 0)
  n := false
  h := false
  c := false

/-- The ALU operation of the group (40_alu8.md R130), with the prior Carry for ADC and SBC (R136, R140). -/
def alu8 (op : Alu) (a v : Byte) (carry : Bool) : AluResult :=
  match op with
  | .add => add8 a v false
  | .adc => add8 a v carry
  | .sub => sub8 a v false
  | .sbc => sub8 a v carry
  | .and => and8 a v
  | .xor => xor8 a v
  | .or => or8 a v
  | .cp => sub8 a v false

/-- DAA (40_alu8.md R152): the corrected accumulator and the four flags; N is passed through, H is cleared. -/
def daa8 (a : Byte) (n h c : Bool) : AluResult :=
  if n then
    let corr : Byte := (if h then 0x06 else 0) ||| (if c then 0x60 else 0)
    let res := a - corr
    { res := res, z := decide (res = 0), n := n, h := false, c := c }
  else
    let low : Bool := h || decide ((a &&& 0x0F).toNat > 0x09)
    let high : Bool := c || decide (a.toNat > 0x99)
    let corr : Byte := (if low then 0x06 else 0) ||| (if high then 0x60 else 0)
    let res := a + corr
    { res := res, z := decide (res = 0), n := n, h := false, c := high }

/-! ### 16-bit arithmetic (41_alu16.md) -/

/-- `res` of `add16(a, v)` (41_alu16.md R180). -/
def add16Res (a v : Word) : Word := BitVec.ofNat 16 (a.toNat + v.toNat)

/-- H of `add16(a, v)` (41_alu16.md R180): the carry out of bit 11. -/
def add16H (a v : Word) : Bool := decide ((a &&& 0x0FFF).toNat + (v &&& 0x0FFF).toNat > 0x0FFF)

/-- C of `add16(a, v)` (41_alu16.md R180): the carry out of bit 15. -/
def add16C (a v : Word) : Bool := decide (a.toNat + v.toNat > 0xFFFF)

/-- H of `ADD SP,e8` and `LD HL,SP+e8` (41_alu16.md R184; 46_load16_stack.md R315): the carry out of bit 3. -/
def spE8H (sp : Word) (e : Byte) : Bool := decide ((sp &&& 0x000F).toNat + (e &&& 0x0F).toNat > 0x0F)

/-- C of `ADD SP,e8` and `LD HL,SP+e8` (41_alu16.md R184; 46_load16_stack.md R315): the carry out of bit 7, `e`
taken unsigned. -/
def spE8C (sp : Word) (e : Byte) : Bool := decide ((sp &&& 0x00FF).toNat + e.toNat > 0xFF)

/-! ### Rotates, shifts and bits (42_rotate_shift_bit.md) -/

/-- The result of a rotate kind on `v` with prior Carry `carry` (42_rotate_shift_bit.md R195 to R202; the
accumulator rotates R190 to R193 are the first four). -/
def rotRes (k : Rot) (v : Byte) (carry : Bool) : Byte :=
  match k with
  | .rlc => v.extractLsb' 0 7 ++ BitVec.ofBool (v.getLsbD 7)
  | .rrc => BitVec.ofBool (v.getLsbD 0) ++ v.extractLsb' 1 7
  | .rl => v.extractLsb' 0 7 ++ BitVec.ofBool carry
  | .rr => BitVec.ofBool carry ++ v.extractLsb' 1 7
  | .sla => v.extractLsb' 0 7 ++ 0#1
  | .sra => BitVec.ofBool (v.getLsbD 7) ++ v.extractLsb' 1 7
  | .swap => v.extractLsb' 0 4 ++ v.extractLsb' 4 4
  | .srl => 0#1 ++ v.extractLsb' 1 7

/-- The Carry a rotate kind writes (42_rotate_shift_bit.md R195 to R202): the bit shifted out, 0 for SWAP. -/
def rotCarry (k : Rot) (v : Byte) : Bool :=
  match k with
  | .rlc | .rl | .sla => v.getLsbD 7
  | .rrc | .rr | .sra | .srl => v.getLsbD 0
  | .swap => false

/-- `v & ~(1 << b)` (42_rotate_shift_bit.md R204). -/
def resBit (b : Octal) (v : Byte) : Byte := v &&& ~~~(1#8 <<< b.toNat)

/-- `v | (1 << b)` (42_rotate_shift_bit.md R205). -/
def setBit (b : Octal) (v : Byte) : Byte := v ||| (1#8 <<< b.toNat)

end Sys2Proof.Machine
end

