-- ==== Sys2Proof/Machine/Operands.lean ====
section
/-! DEFINITION. The operand forms: the 8-bit operand of a register code (10_state.md R24), the 16-bit registers
of the pair codes (R27), high-page addresses (45_load8.md R282). -/
namespace Sys2Proof.Machine

/-- `R8(c)` (10_state.md R24): the register, or one bus read at HL for code 6. -/
def State.getR8 (s : State) : R8 → Byte × State
  | .b => (s.b, s)
  | .c => (s.c, s)
  | .d => (s.d, s)
  | .e => (s.e, s)
  | .h => (s.h, s)
  | .l => (s.l, s)
  | .memHl => s.memRead s.hl
  | .a => (s.a, s)

/-- `W8(c, v)` (10_state.md R24): the register, or one bus write at HL for code 6. -/
def State.setR8 (s : State) (r : R8) (v : Byte) : State :=
  match r with
  | .b => s.setB v
  | .c => s.setC v
  | .d => s.setD v
  | .e => s.setE v
  | .h => s.setH v
  | .l => s.setL v
  | .memHl => s.memWrite s.hl v
  | .a => s.setA v

/-- `RP(p)` read (10_state.md R27). -/
def State.getRp (s : State) : Rp → Word
  | .bc => s.bc
  | .de => s.de
  | .hl => s.hl
  | .sp => s.sp

/-- `RP(p) <- w` (10_state.md R27). -/
def State.setRp (s : State) (p : Rp) (w : Word) : State :=
  match p with
  | .bc => s.setBc w
  | .de => s.setDe w
  | .hl => s.setHl w
  | .sp => s.setSp w

/-- `RP2(p)` read (10_state.md R27). -/
def State.getRp2 (s : State) : Rp2 → Word
  | .bc => s.bc
  | .de => s.de
  | .hl => s.hl
  | .af => s.af

/-- `RP2(p) <- w` (10_state.md R27); for AF the low four bits are dropped (R29). -/
def State.setRp2 (s : State) (p : Rp2) (w : Word) : State :=
  match p with
  | .bc => s.setBc w
  | .de => s.setDe w
  | .hl => s.setHl w
  | .af => s.setAf w

/-- `0xFF00 + zext_16(n)` (45_load8.md R282). -/
def highAddr (n : Byte) : Word := highPageBase + zext16 n

end Sys2Proof.Machine
end

