-- ==== Sys2Proof/Machine/Alu16.lean ====
section
/-! DEFINITION. 16-bit arithmetic (41_alu16.md). -/
namespace Sys2Proof.Machine

/-- `ADD HL,rr` (41_alu16.md R181): Z is unchanged. -/
def State.addHlRp (s : State) (p : Rp) : State :=
  let a := s.hl
  let v := s.getRp p
  (s.setHl (add16Res a v)).withFlags s.flagZ false (add16H a v) (add16C a v)

/-- `INC rr` (41_alu16.md R182): no flag is written. -/
def State.incRp (s : State) (p : Rp) : State := s.setRp p (s.getRp p + 1)

/-- `DEC rr` (41_alu16.md R183): no flag is written. -/
def State.decRp (s : State) (p : Rp) : State := s.setRp p (s.getRp p - 1)

/-- The flags of `ADD SP,e8` and `LD HL,SP+e8` (41_alu16.md R184; 46_load16_stack.md R315), from the SP before. -/
def State.spE8Flags (s : State) (sp : Word) (e : Byte) : State := s.withFlags false false (spE8H sp e) (spE8C sp e)

/-- `ADD SP,e8` (41_alu16.md R184). -/
def State.addSpE (s : State) (e : Byte) : State := (s.setSp (s.sp + sext16 e)).spE8Flags s.sp e

/-! ### One meaning per instruction -/

/-- `ADD HL,BC` (09), R181. -/
def execAddHlBc (s : State) : StepResult := .next (s.addHlRp .bc)

/-- `ADD HL,DE` (19), R181. -/
def execAddHlDe (s : State) : StepResult := .next (s.addHlRp .de)

/-- `ADD HL,HL` (29), R181. -/
def execAddHlHl (s : State) : StepResult := .next (s.addHlRp .hl)

/-- `ADD HL,SP` (39), R181. -/
def execAddHlSp (s : State) : StepResult := .next (s.addHlRp .sp)

/-- `INC BC` (03), R182. -/
def execIncBc (s : State) : StepResult := .next (s.incRp .bc)

/-- `INC DE` (13), R182. -/
def execIncDe (s : State) : StepResult := .next (s.incRp .de)

/-- `INC HL` (23), R182. -/
def execIncHl (s : State) : StepResult := .next (s.incRp .hl)

/-- `INC SP` (33), R182. -/
def execIncSp (s : State) : StepResult := .next (s.incRp .sp)

/-- `DEC BC` (0B), R183. -/
def execDecBc (s : State) : StepResult := .next (s.decRp .bc)

/-- `DEC DE` (1B), R183. -/
def execDecDe (s : State) : StepResult := .next (s.decRp .de)

/-- `DEC HL` (2B), R183. -/
def execDecHl (s : State) : StepResult := .next (s.decRp .hl)

/-- `DEC SP` (3B), R183. -/
def execDecSp (s : State) : StepResult := .next (s.decRp .sp)

/-- `ADD SP,e8` (E8), R184. -/
def execAddSpE8 (e8 : Byte) (s : State) : StepResult := .next (s.addSpE e8)

end Sys2Proof.Machine
end

