-- ==== Sys2Proof/Machine/Alu8.lean ====
section
/-! DEFINITION. 8-bit arithmetic and logic (40_alu8.md). -/
namespace Sys2Proof.Machine

/-- An ALU operation on A and the operand `v` (40_alu8.md R134 to R149): F.C is read before any flag is written,
and CP discards the result. -/
def State.aluA (s : State) (op : Alu) (v : Byte) : State :=
  let r := alu8 op s.a v s.flagC
  let s1 :=
    match op with
    | .add | .adc | .sub | .sbc | .and | .xor | .or => s.setA r.res
    | .cp => s
  s1.withFlags r.z r.n r.h r.c

/-- The `r8` forms: the operand is read first (40_alu8.md R134). -/
def State.aluR8 (s : State) (op : Alu) (r : R8) : State :=
  let x := s.getR8 r
  x.2.aluA op x.1

/-- `INC r8` (40_alu8.md R150): Carry is not affected. -/
def State.incR8 (s : State) (r : R8) : State :=
  let x := s.getR8 r
  let res := x.1 + 1
  (x.2.setR8 r res).withFlags (decide (res = 0)) false (decide (x.1 &&& 0x0F = 0x0F)) s.flagC

/-- `DEC r8` (40_alu8.md R151): Carry is not affected. -/
def State.decR8 (s : State) (r : R8) : State :=
  let x := s.getR8 r
  let res := x.1 - 1
  (x.2.setR8 r res).withFlags (decide (res = 0)) true (decide (x.1 &&& 0x0F = 0x00)) s.flagC

/-- `DAA` (40_alu8.md R152). -/
def State.daaA (s : State) : State :=
  let r := daa8 s.a s.flagN s.flagH s.flagC
  (s.setA r.res).withFlags r.z r.n r.h r.c

/-- `CPL` (40_alu8.md R153). -/
def State.cplA (s : State) : State := (s.setA (~~~s.a)).withFlags s.flagZ true true s.flagC

/-- `SCF` (40_alu8.md R154). -/
def State.scfF (s : State) : State := s.withFlags s.flagZ false false true

/-- `CCF` (40_alu8.md R155). -/
def State.ccfF (s : State) : State := s.withFlags s.flagZ false false (!s.flagC)

/-! ### One meaning per instruction -/

/-- `ADD A,B` (80), R134. -/
def execAddAB (s : State) : StepResult := .next (s.aluR8 .add .b)

/-- `ADD A,C` (81), R134. -/
def execAddAC (s : State) : StepResult := .next (s.aluR8 .add .c)

/-- `ADD A,D` (82), R134. -/
def execAddAD (s : State) : StepResult := .next (s.aluR8 .add .d)

/-- `ADD A,E` (83), R134. -/
def execAddAE (s : State) : StepResult := .next (s.aluR8 .add .e)

/-- `ADD A,H` (84), R134. -/
def execAddAH (s : State) : StepResult := .next (s.aluR8 .add .h)

/-- `ADD A,L` (85), R134. -/
def execAddAL (s : State) : StepResult := .next (s.aluR8 .add .l)

/-- `ADD A,(HL)` (86), R134. -/
def execAddAMemHl (s : State) : StepResult := .next (s.aluR8 .add .memHl)

/-- `ADD A,A` (87), R134. -/
def execAddAA (s : State) : StepResult := .next (s.aluR8 .add .a)

/-- `ADC A,B` (88), R136. -/
def execAdcAB (s : State) : StepResult := .next (s.aluR8 .adc .b)

/-- `ADC A,C` (89), R136. -/
def execAdcAC (s : State) : StepResult := .next (s.aluR8 .adc .c)

/-- `ADC A,D` (8A), R136. -/
def execAdcAD (s : State) : StepResult := .next (s.aluR8 .adc .d)

/-- `ADC A,E` (8B), R136. -/
def execAdcAE (s : State) : StepResult := .next (s.aluR8 .adc .e)

/-- `ADC A,H` (8C), R136. -/
def execAdcAH (s : State) : StepResult := .next (s.aluR8 .adc .h)

/-- `ADC A,L` (8D), R136. -/
def execAdcAL (s : State) : StepResult := .next (s.aluR8 .adc .l)

/-- `ADC A,(HL)` (8E), R136. -/
def execAdcAMemHl (s : State) : StepResult := .next (s.aluR8 .adc .memHl)

/-- `ADC A,A` (8F), R136. -/
def execAdcAA (s : State) : StepResult := .next (s.aluR8 .adc .a)

/-- `SUB B` (90), R138. -/
def execSubB (s : State) : StepResult := .next (s.aluR8 .sub .b)

/-- `SUB C` (91), R138. -/
def execSubC (s : State) : StepResult := .next (s.aluR8 .sub .c)

/-- `SUB D` (92), R138. -/
def execSubD (s : State) : StepResult := .next (s.aluR8 .sub .d)

/-- `SUB E` (93), R138. -/
def execSubE (s : State) : StepResult := .next (s.aluR8 .sub .e)

/-- `SUB H` (94), R138. -/
def execSubH (s : State) : StepResult := .next (s.aluR8 .sub .h)

/-- `SUB L` (95), R138. -/
def execSubL (s : State) : StepResult := .next (s.aluR8 .sub .l)

/-- `SUB (HL)` (96), R138. -/
def execSubMemHl (s : State) : StepResult := .next (s.aluR8 .sub .memHl)

/-- `SUB A` (97), R138. -/
def execSubA (s : State) : StepResult := .next (s.aluR8 .sub .a)

/-- `SBC A,B` (98), R140. -/
def execSbcAB (s : State) : StepResult := .next (s.aluR8 .sbc .b)

/-- `SBC A,C` (99), R140. -/
def execSbcAC (s : State) : StepResult := .next (s.aluR8 .sbc .c)

/-- `SBC A,D` (9A), R140. -/
def execSbcAD (s : State) : StepResult := .next (s.aluR8 .sbc .d)

/-- `SBC A,E` (9B), R140. -/
def execSbcAE (s : State) : StepResult := .next (s.aluR8 .sbc .e)

/-- `SBC A,H` (9C), R140. -/
def execSbcAH (s : State) : StepResult := .next (s.aluR8 .sbc .h)

/-- `SBC A,L` (9D), R140. -/
def execSbcAL (s : State) : StepResult := .next (s.aluR8 .sbc .l)

/-- `SBC A,(HL)` (9E), R140. -/
def execSbcAMemHl (s : State) : StepResult := .next (s.aluR8 .sbc .memHl)

/-- `SBC A,A` (9F), R140. -/
def execSbcAA (s : State) : StepResult := .next (s.aluR8 .sbc .a)

/-- `AND B` (A0), R142. -/
def execAndB (s : State) : StepResult := .next (s.aluR8 .and .b)

/-- `AND C` (A1), R142. -/
def execAndC (s : State) : StepResult := .next (s.aluR8 .and .c)

/-- `AND D` (A2), R142. -/
def execAndD (s : State) : StepResult := .next (s.aluR8 .and .d)

/-- `AND E` (A3), R142. -/
def execAndE (s : State) : StepResult := .next (s.aluR8 .and .e)

/-- `AND H` (A4), R142. -/
def execAndH (s : State) : StepResult := .next (s.aluR8 .and .h)

/-- `AND L` (A5), R142. -/
def execAndL (s : State) : StepResult := .next (s.aluR8 .and .l)

/-- `AND (HL)` (A6), R142. -/
def execAndMemHl (s : State) : StepResult := .next (s.aluR8 .and .memHl)

/-- `AND A` (A7), R142. -/
def execAndA (s : State) : StepResult := .next (s.aluR8 .and .a)

/-- `XOR B` (A8), R144. -/
def execXorB (s : State) : StepResult := .next (s.aluR8 .xor .b)

/-- `XOR C` (A9), R144. -/
def execXorC (s : State) : StepResult := .next (s.aluR8 .xor .c)

/-- `XOR D` (AA), R144. -/
def execXorD (s : State) : StepResult := .next (s.aluR8 .xor .d)

/-- `XOR E` (AB), R144. -/
def execXorE (s : State) : StepResult := .next (s.aluR8 .xor .e)

/-- `XOR H` (AC), R144. -/
def execXorH (s : State) : StepResult := .next (s.aluR8 .xor .h)

/-- `XOR L` (AD), R144. -/
def execXorL (s : State) : StepResult := .next (s.aluR8 .xor .l)

/-- `XOR (HL)` (AE), R144. -/
def execXorMemHl (s : State) : StepResult := .next (s.aluR8 .xor .memHl)

/-- `XOR A` (AF), R144. -/
def execXorA (s : State) : StepResult := .next (s.aluR8 .xor .a)

/-- `OR B` (B0), R146. -/
def execOrB (s : State) : StepResult := .next (s.aluR8 .or .b)

/-- `OR C` (B1), R146. -/
def execOrC (s : State) : StepResult := .next (s.aluR8 .or .c)

/-- `OR D` (B2), R146. -/
def execOrD (s : State) : StepResult := .next (s.aluR8 .or .d)

/-- `OR E` (B3), R146. -/
def execOrE (s : State) : StepResult := .next (s.aluR8 .or .e)

/-- `OR H` (B4), R146. -/
def execOrH (s : State) : StepResult := .next (s.aluR8 .or .h)

/-- `OR L` (B5), R146. -/
def execOrL (s : State) : StepResult := .next (s.aluR8 .or .l)

/-- `OR (HL)` (B6), R146. -/
def execOrMemHl (s : State) : StepResult := .next (s.aluR8 .or .memHl)

/-- `OR A` (B7), R146. -/
def execOrA (s : State) : StepResult := .next (s.aluR8 .or .a)

/-- `CP B` (B8), R148. -/
def execCpB (s : State) : StepResult := .next (s.aluR8 .cp .b)

/-- `CP C` (B9), R148. -/
def execCpC (s : State) : StepResult := .next (s.aluR8 .cp .c)

/-- `CP D` (BA), R148. -/
def execCpD (s : State) : StepResult := .next (s.aluR8 .cp .d)

/-- `CP E` (BB), R148. -/
def execCpE (s : State) : StepResult := .next (s.aluR8 .cp .e)

/-- `CP H` (BC), R148. -/
def execCpH (s : State) : StepResult := .next (s.aluR8 .cp .h)

/-- `CP L` (BD), R148. -/
def execCpL (s : State) : StepResult := .next (s.aluR8 .cp .l)

/-- `CP (HL)` (BE), R148. -/
def execCpMemHl (s : State) : StepResult := .next (s.aluR8 .cp .memHl)

/-- `CP A` (BF), R148. -/
def execCpA (s : State) : StepResult := .next (s.aluR8 .cp .a)

/-- `ADD A,d8` (C6), R135. -/
def execAddAD8 (d8 : Byte) (s : State) : StepResult := .next (s.aluA .add d8)

/-- `ADC A,d8` (CE), R137. -/
def execAdcAD8 (d8 : Byte) (s : State) : StepResult := .next (s.aluA .adc d8)

/-- `SUB d8` (D6), R139. -/
def execSubD8 (d8 : Byte) (s : State) : StepResult := .next (s.aluA .sub d8)

/-- `SBC A,d8` (DE), R141. -/
def execSbcAD8 (d8 : Byte) (s : State) : StepResult := .next (s.aluA .sbc d8)

/-- `AND d8` (E6), R143. -/
def execAndD8 (d8 : Byte) (s : State) : StepResult := .next (s.aluA .and d8)

/-- `XOR d8` (EE), R145. -/
def execXorD8 (d8 : Byte) (s : State) : StepResult := .next (s.aluA .xor d8)

/-- `OR d8` (F6), R147. -/
def execOrD8 (d8 : Byte) (s : State) : StepResult := .next (s.aluA .or d8)

/-- `CP d8` (FE), R149. -/
def execCpD8 (d8 : Byte) (s : State) : StepResult := .next (s.aluA .cp d8)

/-- `INC B` (04), R150. -/
def execIncB (s : State) : StepResult := .next (s.incR8 .b)

/-- `INC C` (0C), R150. -/
def execIncC (s : State) : StepResult := .next (s.incR8 .c)

/-- `INC D` (14), R150. -/
def execIncD (s : State) : StepResult := .next (s.incR8 .d)

/-- `INC E` (1C), R150. -/
def execIncE (s : State) : StepResult := .next (s.incR8 .e)

/-- `INC H` (24), R150. -/
def execIncH (s : State) : StepResult := .next (s.incR8 .h)

/-- `INC L` (2C), R150. -/
def execIncL (s : State) : StepResult := .next (s.incR8 .l)

/-- `INC (HL)` (34), R150. -/
def execIncMemHl (s : State) : StepResult := .next (s.incR8 .memHl)

/-- `INC A` (3C), R150. -/
def execIncA (s : State) : StepResult := .next (s.incR8 .a)

/-- `DEC B` (05), R151. -/
def execDecB (s : State) : StepResult := .next (s.decR8 .b)

/-- `DEC C` (0D), R151. -/
def execDecC (s : State) : StepResult := .next (s.decR8 .c)

/-- `DEC D` (15), R151. -/
def execDecD (s : State) : StepResult := .next (s.decR8 .d)

/-- `DEC E` (1D), R151. -/
def execDecE (s : State) : StepResult := .next (s.decR8 .e)

/-- `DEC H` (25), R151. -/
def execDecH (s : State) : StepResult := .next (s.decR8 .h)

/-- `DEC L` (2D), R151. -/
def execDecL (s : State) : StepResult := .next (s.decR8 .l)

/-- `DEC (HL)` (35), R151. -/
def execDecMemHl (s : State) : StepResult := .next (s.decR8 .memHl)

/-- `DEC A` (3D), R151. -/
def execDecA (s : State) : StepResult := .next (s.decR8 .a)

/-- `DAA` (27), R152. -/
def execDaa (s : State) : StepResult := .next (s.daaA)

/-- `CPL` (2F), R153. -/
def execCpl (s : State) : StepResult := .next (s.cplA)

/-- `SCF` (37), R154. -/
def execScf (s : State) : StepResult := .next (s.scfF)

/-- `CCF` (3F), R155. -/
def execCcf (s : State) : StepResult := .next (s.ccfF)

end Sys2Proof.Machine
end

