-- ==== Sys2Proof/Machine/Control.lean ====
section
/-! DEFINITION. Control transfer (43_control_flow.md). -/
namespace Sys2Proof.Machine

/-- `JR e8` (43_control_flow.md R224): relative to the address after the instruction, where PC stands. -/
def State.jr (s : State) (e : Byte) : State := s.setPc (s.pc + sext16 e)

/-- `CALL a16` (43_control_flow.md R226). -/
def State.call (s : State) (t : Word) : State := (s.push16 s.pc).setPc t

/-- `RET` (43_control_flow.md R228). -/
def State.ret (s : State) : State :=
  let x := s.pop16
  x.2.setPc x.1

/-- `JP cc,a16` (43_control_flow.md R222). -/
def State.jpCond (s : State) (cc : Cond) (t : Word) : State :=
  if s.cond cc then (s.setPc t).addCycles s.params.cyc.takenJp else s

/-- `JR cc,e8` (43_control_flow.md R225). -/
def State.jrCond (s : State) (cc : Cond) (e : Byte) : State :=
  if s.cond cc then (s.jr e).addCycles s.params.cyc.takenJr else s

/-- `CALL cc,a16` (43_control_flow.md R227): untaken, the stack is not accessed. -/
def State.callCond (s : State) (cc : Cond) (t : Word) : State :=
  if s.cond cc then (s.call t).addCycles s.params.cyc.takenCall else s

/-- `RET cc` (43_control_flow.md R229): untaken, the stack is not accessed. -/
def State.retCond (s : State) (cc : Cond) : State :=
  if s.cond cc then s.ret.addCycles s.params.cyc.takenRet else s

/-- `RST t` (43_control_flow.md R230). -/
def State.rst (s : State) (t : Octal) : State := s.call (rstVec t)

/-! ### One meaning per instruction -/

/-- `JP a16` (C3), R221. -/
def execJpA16 (a16 : Word) (s : State) : StepResult := .next (s.setPc a16)

/-- `JP NZ,a16` (C2), R222. -/
def execJpNzA16 (a16 : Word) (s : State) : StepResult := .next (s.jpCond .nz a16)

/-- `JP Z,a16` (CA), R222. -/
def execJpZA16 (a16 : Word) (s : State) : StepResult := .next (s.jpCond .z a16)

/-- `JP NC,a16` (D2), R222. -/
def execJpNcA16 (a16 : Word) (s : State) : StepResult := .next (s.jpCond .nc a16)

/-- `JP C,a16` (DA), R222. -/
def execJpCA16 (a16 : Word) (s : State) : StepResult := .next (s.jpCond .c a16)

/-- `JP HL` (E9), R223. -/
def execJpHl (s : State) : StepResult := .next (s.setPc s.hl)

/-- `JR e8` (18), R224. -/
def execJrE8 (e8 : Byte) (s : State) : StepResult := .next (s.jr e8)

/-- `JR NZ,e8` (20), R225. -/
def execJrNzE8 (e8 : Byte) (s : State) : StepResult := .next (s.jrCond .nz e8)

/-- `JR Z,e8` (28), R225. -/
def execJrZE8 (e8 : Byte) (s : State) : StepResult := .next (s.jrCond .z e8)

/-- `JR NC,e8` (30), R225. -/
def execJrNcE8 (e8 : Byte) (s : State) : StepResult := .next (s.jrCond .nc e8)

/-- `JR C,e8` (38), R225. -/
def execJrCE8 (e8 : Byte) (s : State) : StepResult := .next (s.jrCond .c e8)

/-- `CALL a16` (CD), R226. -/
def execCallA16 (a16 : Word) (s : State) : StepResult := .next (s.call a16)

/-- `CALL NZ,a16` (C4), R227. -/
def execCallNzA16 (a16 : Word) (s : State) : StepResult := .next (s.callCond .nz a16)

/-- `CALL Z,a16` (CC), R227. -/
def execCallZA16 (a16 : Word) (s : State) : StepResult := .next (s.callCond .z a16)

/-- `CALL NC,a16` (D4), R227. -/
def execCallNcA16 (a16 : Word) (s : State) : StepResult := .next (s.callCond .nc a16)

/-- `CALL C,a16` (DC), R227. -/
def execCallCA16 (a16 : Word) (s : State) : StepResult := .next (s.callCond .c a16)

/-- `RET` (C9), R228. -/
def execRet (s : State) : StepResult := .next (s.ret)

/-- `RET NZ` (C0), R229. -/
def execRetNz (s : State) : StepResult := .next (s.retCond .nz)

/-- `RET Z` (C8), R229. -/
def execRetZ (s : State) : StepResult := .next (s.retCond .z)

/-- `RET NC` (D0), R229. -/
def execRetNc (s : State) : StepResult := .next (s.retCond .nc)

/-- `RET C` (D8), R229. -/
def execRetC (s : State) : StepResult := .next (s.retCond .c)

/-- `RETI` (D9), R234. -/
def execReti (s : State) : StepResult := .next (s.returnFromInterrupt)

/-- `RST 00H` (C7), R230. -/
def execRst00H (s : State) : StepResult := .next (s.rst .n0)

/-- `RST 08H` (CF), R230. -/
def execRst08H (s : State) : StepResult := .next (s.rst .n1)

/-- `RST 10H` (D7), R230. -/
def execRst10H (s : State) : StepResult := .next (s.rst .n2)

/-- `RST 18H` (DF), R230. -/
def execRst18H (s : State) : StepResult := .next (s.rst .n3)

/-- `RST 20H` (E7), R230. -/
def execRst20H (s : State) : StepResult := .next (s.rst .n4)

/-- `RST 28H` (EF), R230. -/
def execRst28H (s : State) : StepResult := .next (s.rst .n5)

/-- `RST 30H` (F7), R230. -/
def execRst30H (s : State) : StepResult := .next (s.rst .n6)

/-- `RST 38H` (FF), R230. -/
def execRst38H (s : State) : StepResult := .next (s.rst .n7)

end Sys2Proof.Machine
end

