-- ==== Sys2Proof/Machine/Load16.lean ====
section
/-! DEFINITION. 16-bit loads and stack moves (46_load16_stack.md). -/
namespace Sys2Proof.Machine

/-- `LD HL,SP+e8` (46_load16_stack.md R315): the flags of `ADD SP,e8`; SP is unchanged. -/
def State.ldHlSpE (s : State) (e : Byte) : State := (s.setHl (s.sp + sext16 e)).spE8Flags s.sp e

/-- `PUSH rr` and `PUSH AF` (46_load16_stack.md R313, R314). -/
def State.push (s : State) (p : Rp2) : State := s.push16 (s.getRp2 p)

/-- `POP rr` and `POP AF` (46_load16_stack.md R316, R318). -/
def State.pop (s : State) (p : Rp2) : State :=
  let x := s.pop16
  x.2.setRp2 p x.1

/-! ### One meaning per instruction -/

/-- `LD BC,d16` (01), R310. -/
def execLdBcD16 (d16 : Word) (s : State) : StepResult := .next (s.setRp .bc d16)

/-- `LD DE,d16` (11), R310. -/
def execLdDeD16 (d16 : Word) (s : State) : StepResult := .next (s.setRp .de d16)

/-- `LD HL,d16` (21), R310. -/
def execLdHlD16 (d16 : Word) (s : State) : StepResult := .next (s.setRp .hl d16)

/-- `LD SP,d16` (31), R310. -/
def execLdSpD16 (d16 : Word) (s : State) : StepResult := .next (s.setRp .sp d16)

/-- `LD (a16),SP` (08), R311. -/
def execLdMemA16Sp (a16 : Word) (s : State) : StepResult := .next (s.memWrite16 a16 s.sp)

/-- `LD SP,HL` (F9), R312. -/
def execLdSpHl (s : State) : StepResult := .next (s.setSp s.hl)

/-- `LD HL,SP+e8` (F8), R315. -/
def execLdHlSpE8 (e8 : Byte) (s : State) : StepResult := .next (s.ldHlSpE e8)

/-- `PUSH BC` (C5), R313. -/
def execPushBc (s : State) : StepResult := .next (s.push .bc)

/-- `PUSH DE` (D5), R313. -/
def execPushDe (s : State) : StepResult := .next (s.push .de)

/-- `PUSH HL` (E5), R313. -/
def execPushHl (s : State) : StepResult := .next (s.push .hl)

/-- `PUSH AF` (F5), R314. -/
def execPushAf (s : State) : StepResult := .next (s.push .af)

/-- `POP BC` (C1), R316. -/
def execPopBc (s : State) : StepResult := .next (s.pop .bc)

/-- `POP DE` (D1), R316. -/
def execPopDe (s : State) : StepResult := .next (s.pop .de)

/-- `POP HL` (E1), R316. -/
def execPopHl (s : State) : StepResult := .next (s.pop .hl)

/-- `POP AF` (F1), R318. -/
def execPopAf (s : State) : StepResult := .next (s.pop .af)

end Sys2Proof.Machine
end

