-- ==== Sys2Proof/Machine/Load8.lean ====
section
/-! DEFINITION. 8-bit loads and stores (45_load8.md). No flag is written. -/
namespace Sys2Proof.Machine

/-- `LD r8,r8'` (45_load8.md R270): the source is read first. -/
def State.ldR8 (s : State) (dst src : R8) : State :=
  let x := s.getR8 src
  x.2.setR8 dst x.1

/-- `A <- MemRead(addr, 1)`: the accumulator loads (45_load8.md R272, R273, R276, R284, R286). -/
def State.ldA (s : State) (addr : Word) : State :=
  let x := s.memRead addr
  x.2.setA x.1

/-- `MemWrite(addr, 1, A)`: the accumulator stores (45_load8.md R274, R275, R277, R283, R285). -/
def State.stA (s : State) (addr : Word) : State := s.memWrite addr s.a

/-- `LD (HL+),A` and `LD (HL-),A` (45_load8.md R278, R280): `step` is +1 or -1, after the access. -/
def State.stAHlStep (s : State) (step : Word) : State :=
  let s1 := s.stA s.hl
  s1.setHl (s1.hl + step)

/-- `LD A,(HL+)` and `LD A,(HL-)` (45_load8.md R279, R281): `step` is +1 or -1, after the access. -/
def State.ldAHlStep (s : State) (step : Word) : State :=
  let s1 := s.ldA s.hl
  s1.setHl (s1.hl + step)

/-! ### One meaning per instruction -/

/-- `LD B,B` (40), R270. -/
def execLdBB (s : State) : StepResult := .next (s.ldR8 .b .b)

/-- `LD B,C` (41), R270. -/
def execLdBC (s : State) : StepResult := .next (s.ldR8 .b .c)

/-- `LD B,D` (42), R270. -/
def execLdBD (s : State) : StepResult := .next (s.ldR8 .b .d)

/-- `LD B,E` (43), R270. -/
def execLdBE (s : State) : StepResult := .next (s.ldR8 .b .e)

/-- `LD B,H` (44), R270. -/
def execLdBH (s : State) : StepResult := .next (s.ldR8 .b .h)

/-- `LD B,L` (45), R270. -/
def execLdBL (s : State) : StepResult := .next (s.ldR8 .b .l)

/-- `LD B,(HL)` (46), R270. -/
def execLdBMemHl (s : State) : StepResult := .next (s.ldR8 .b .memHl)

/-- `LD B,A` (47), R270. -/
def execLdBA (s : State) : StepResult := .next (s.ldR8 .b .a)

/-- `LD C,B` (48), R270. -/
def execLdCB (s : State) : StepResult := .next (s.ldR8 .c .b)

/-- `LD C,C` (49), R270. -/
def execLdCC (s : State) : StepResult := .next (s.ldR8 .c .c)

/-- `LD C,D` (4A), R270. -/
def execLdCD (s : State) : StepResult := .next (s.ldR8 .c .d)

/-- `LD C,E` (4B), R270. -/
def execLdCE (s : State) : StepResult := .next (s.ldR8 .c .e)

/-- `LD C,H` (4C), R270. -/
def execLdCH (s : State) : StepResult := .next (s.ldR8 .c .h)

/-- `LD C,L` (4D), R270. -/
def execLdCL (s : State) : StepResult := .next (s.ldR8 .c .l)

/-- `LD C,(HL)` (4E), R270. -/
def execLdCMemHl (s : State) : StepResult := .next (s.ldR8 .c .memHl)

/-- `LD C,A` (4F), R270. -/
def execLdCA (s : State) : StepResult := .next (s.ldR8 .c .a)

/-- `LD D,B` (50), R270. -/
def execLdDB (s : State) : StepResult := .next (s.ldR8 .d .b)

/-- `LD D,C` (51), R270. -/
def execLdDC (s : State) : StepResult := .next (s.ldR8 .d .c)

/-- `LD D,D` (52), R270. -/
def execLdDD (s : State) : StepResult := .next (s.ldR8 .d .d)

/-- `LD D,E` (53), R270. -/
def execLdDE (s : State) : StepResult := .next (s.ldR8 .d .e)

/-- `LD D,H` (54), R270. -/
def execLdDH (s : State) : StepResult := .next (s.ldR8 .d .h)

/-- `LD D,L` (55), R270. -/
def execLdDL (s : State) : StepResult := .next (s.ldR8 .d .l)

/-- `LD D,(HL)` (56), R270. -/
def execLdDMemHl (s : State) : StepResult := .next (s.ldR8 .d .memHl)

/-- `LD D,A` (57), R270. -/
def execLdDA (s : State) : StepResult := .next (s.ldR8 .d .a)

/-- `LD E,B` (58), R270. -/
def execLdEB (s : State) : StepResult := .next (s.ldR8 .e .b)

/-- `LD E,C` (59), R270. -/
def execLdEC (s : State) : StepResult := .next (s.ldR8 .e .c)

/-- `LD E,D` (5A), R270. -/
def execLdED (s : State) : StepResult := .next (s.ldR8 .e .d)

/-- `LD E,E` (5B), R270. -/
def execLdEE (s : State) : StepResult := .next (s.ldR8 .e .e)

/-- `LD E,H` (5C), R270. -/
def execLdEH (s : State) : StepResult := .next (s.ldR8 .e .h)

/-- `LD E,L` (5D), R270. -/
def execLdEL (s : State) : StepResult := .next (s.ldR8 .e .l)

/-- `LD E,(HL)` (5E), R270. -/
def execLdEMemHl (s : State) : StepResult := .next (s.ldR8 .e .memHl)

/-- `LD E,A` (5F), R270. -/
def execLdEA (s : State) : StepResult := .next (s.ldR8 .e .a)

/-- `LD H,B` (60), R270. -/
def execLdHB (s : State) : StepResult := .next (s.ldR8 .h .b)

/-- `LD H,C` (61), R270. -/
def execLdHC (s : State) : StepResult := .next (s.ldR8 .h .c)

/-- `LD H,D` (62), R270. -/
def execLdHD (s : State) : StepResult := .next (s.ldR8 .h .d)

/-- `LD H,E` (63), R270. -/
def execLdHE (s : State) : StepResult := .next (s.ldR8 .h .e)

/-- `LD H,H` (64), R270. -/
def execLdHH (s : State) : StepResult := .next (s.ldR8 .h .h)

/-- `LD H,L` (65), R270. -/
def execLdHL (s : State) : StepResult := .next (s.ldR8 .h .l)

/-- `LD H,(HL)` (66), R270. -/
def execLdHMemHl (s : State) : StepResult := .next (s.ldR8 .h .memHl)

/-- `LD H,A` (67), R270. -/
def execLdHA (s : State) : StepResult := .next (s.ldR8 .h .a)

/-- `LD L,B` (68), R270. -/
def execLdLB (s : State) : StepResult := .next (s.ldR8 .l .b)

/-- `LD L,C` (69), R270. -/
def execLdLC (s : State) : StepResult := .next (s.ldR8 .l .c)

/-- `LD L,D` (6A), R270. -/
def execLdLD (s : State) : StepResult := .next (s.ldR8 .l .d)

/-- `LD L,E` (6B), R270. -/
def execLdLE (s : State) : StepResult := .next (s.ldR8 .l .e)

/-- `LD L,H` (6C), R270. -/
def execLdLH (s : State) : StepResult := .next (s.ldR8 .l .h)

/-- `LD L,L` (6D), R270. -/
def execLdLL (s : State) : StepResult := .next (s.ldR8 .l .l)

/-- `LD L,(HL)` (6E), R270. -/
def execLdLMemHl (s : State) : StepResult := .next (s.ldR8 .l .memHl)

/-- `LD L,A` (6F), R270. -/
def execLdLA (s : State) : StepResult := .next (s.ldR8 .l .a)

/-- `LD (HL),B` (70), R270. -/
def execLdMemHlB (s : State) : StepResult := .next (s.ldR8 .memHl .b)

/-- `LD (HL),C` (71), R270. -/
def execLdMemHlC (s : State) : StepResult := .next (s.ldR8 .memHl .c)

/-- `LD (HL),D` (72), R270. -/
def execLdMemHlD (s : State) : StepResult := .next (s.ldR8 .memHl .d)

/-- `LD (HL),E` (73), R270. -/
def execLdMemHlE (s : State) : StepResult := .next (s.ldR8 .memHl .e)

/-- `LD (HL),H` (74), R270. -/
def execLdMemHlH (s : State) : StepResult := .next (s.ldR8 .memHl .h)

/-- `LD (HL),L` (75), R270. -/
def execLdMemHlL (s : State) : StepResult := .next (s.ldR8 .memHl .l)

/-- `LD (HL),A` (77), R270. -/
def execLdMemHlA (s : State) : StepResult := .next (s.ldR8 .memHl .a)

/-- `LD A,B` (78), R270. -/
def execLdAB (s : State) : StepResult := .next (s.ldR8 .a .b)

/-- `LD A,C` (79), R270. -/
def execLdAC (s : State) : StepResult := .next (s.ldR8 .a .c)

/-- `LD A,D` (7A), R270. -/
def execLdAD (s : State) : StepResult := .next (s.ldR8 .a .d)

/-- `LD A,E` (7B), R270. -/
def execLdAE (s : State) : StepResult := .next (s.ldR8 .a .e)

/-- `LD A,H` (7C), R270. -/
def execLdAH (s : State) : StepResult := .next (s.ldR8 .a .h)

/-- `LD A,L` (7D), R270. -/
def execLdAL (s : State) : StepResult := .next (s.ldR8 .a .l)

/-- `LD A,(HL)` (7E), R270. -/
def execLdAMemHl (s : State) : StepResult := .next (s.ldR8 .a .memHl)

/-- `LD A,A` (7F), R270. -/
def execLdAA (s : State) : StepResult := .next (s.ldR8 .a .a)

/-- `LD B,d8` (06), R271. -/
def execLdBD8 (d8 : Byte) (s : State) : StepResult := .next (s.setR8 .b d8)

/-- `LD C,d8` (0E), R271. -/
def execLdCD8 (d8 : Byte) (s : State) : StepResult := .next (s.setR8 .c d8)

/-- `LD D,d8` (16), R271. -/
def execLdDD8 (d8 : Byte) (s : State) : StepResult := .next (s.setR8 .d d8)

/-- `LD E,d8` (1E), R271. -/
def execLdED8 (d8 : Byte) (s : State) : StepResult := .next (s.setR8 .e d8)

/-- `LD H,d8` (26), R271. -/
def execLdHD8 (d8 : Byte) (s : State) : StepResult := .next (s.setR8 .h d8)

/-- `LD L,d8` (2E), R271. -/
def execLdLD8 (d8 : Byte) (s : State) : StepResult := .next (s.setR8 .l d8)

/-- `LD (HL),d8` (36), R271. -/
def execLdMemHlD8 (d8 : Byte) (s : State) : StepResult := .next (s.setR8 .memHl d8)

/-- `LD A,d8` (3E), R271. -/
def execLdAD8 (d8 : Byte) (s : State) : StepResult := .next (s.setR8 .a d8)

/-- `LD A,(BC)` (0A), R272. -/
def execLdAMemBc (s : State) : StepResult := .next (s.ldA s.bc)

/-- `LD A,(DE)` (1A), R273. -/
def execLdAMemDe (s : State) : StepResult := .next (s.ldA s.de)

/-- `LD (BC),A` (02), R274. -/
def execLdMemBcA (s : State) : StepResult := .next (s.stA s.bc)

/-- `LD (DE),A` (12), R275. -/
def execLdMemDeA (s : State) : StepResult := .next (s.stA s.de)

/-- `LD A,(a16)` (FA), R276. -/
def execLdAMemA16 (a16 : Word) (s : State) : StepResult := .next (s.ldA a16)

/-- `LD (a16),A` (EA), R277. -/
def execLdMemA16A (a16 : Word) (s : State) : StepResult := .next (s.stA a16)

/-- `LD (HL+),A` (22), R278. -/
def execLdMemHlIncA (s : State) : StepResult := .next (s.stAHlStep 1)

/-- `LD A,(HL+)` (2A), R279. -/
def execLdAMemHlInc (s : State) : StepResult := .next (s.ldAHlStep 1)

/-- `LD (HL-),A` (32), R280. -/
def execLdMemHlDecA (s : State) : StepResult := .next (s.stAHlStep (-1))

/-- `LD A,(HL-)` (3A), R281. -/
def execLdAMemHlDec (s : State) : StepResult := .next (s.ldAHlStep (-1))

/-- `LDH (a8),A` (E0), R283. -/
def execLdhMemA8A (a8 : Byte) (s : State) : StepResult := .next (s.stA (highAddr a8))

/-- `LDH A,(a8)` (F0), R284. -/
def execLdhAMemA8 (a8 : Byte) (s : State) : StepResult := .next (s.ldA (highAddr a8))

/-- `LD (C),A` (E2), R285. -/
def execLdMemCA (s : State) : StepResult := .next (s.stA (highAddr s.c))

/-- `LD A,(C)` (F2), R286. -/
def execLdAMemC (s : State) : StepResult := .next (s.ldA (highAddr s.c))

end Sys2Proof.Machine
end

