-- ==== Sys2Proof/Machine/Rotate.lean ====
section
/-! DEFINITION. Rotates, shifts and bit operations (42_rotate_shift_bit.md), and the prefix entry (30_encoding.md R99). -/
namespace Sys2Proof.Machine

/-- The four accumulator rotates (42_rotate_shift_bit.md R190 to R193): Z, N and H are cleared. -/
def State.rotA (s : State) (k : Rot) : State :=
  (s.setA (rotRes k s.a s.flagC)).withFlags false false false (rotCarry k s.a)

/-- The rotates and shifts of the secondary table (42_rotate_shift_bit.md R194 to R202): Z is computed. -/
def State.rotR8 (s : State) (k : Rot) (r : R8) : State :=
  let x := s.getR8 r
  let res := rotRes k x.1 s.flagC
  (x.2.setR8 r res).withFlags (decide (res = 0)) false false (rotCarry k x.1)

/-- `BIT b,r8` (42_rotate_shift_bit.md R203): Carry is unchanged and nothing is written back. -/
def State.bitR8 (s : State) (b : Octal) (r : R8) : State :=
  let x := s.getR8 r
  x.2.withFlags (!x.1.getLsbD b.toNat) false true s.flagC

/-- `RES b,r8` (42_rotate_shift_bit.md R204): no flag is written. -/
def State.resR8 (s : State) (b : Octal) (r : R8) : State :=
  let x := s.getR8 r
  x.2.setR8 r (resBit b x.1)

/-- `SET b,r8` (42_rotate_shift_bit.md R205): no flag is written. -/
def State.setBitR8 (s : State) (b : Octal) (r : R8) : State :=
  let x := s.getR8 r
  x.2.setR8 r (setBit b x.1)

/-- `SECONDARY[op2]` by the fields of `op2` (42_rotate_shift_bit.md R194; 30_encoding.md R101). -/
def State.secondary (s : State) (op2 : Byte) : State :=
  match fieldX op2 with
  | 0 => s.rotR8 (Rot.ofCode (fieldY op2)) (R8.ofCode (fieldZ op2))
  | 1 => s.bitR8 (fieldY op2) (R8.ofCode (fieldZ op2))
  | 2 => s.resR8 (fieldY op2) (R8.ofCode (fieldZ op2))
  | _ => s.setBitR8 (fieldY op2) (R8.ofCode (fieldZ op2))

/-- The prefix entry (30_encoding.md R90, R99): fetch one more byte and run the secondary entry it selects. -/
def State.prefixed (s : State) : State :=
  let x := s.fetch8
  x.2.secondary x.1

/-! ### One meaning per instruction -/

/-- `RLCA` (07), R190. -/
def execRlca (s : State) : StepResult := .next (s.rotA .rlc)

/-- `RRCA` (0F), R191. -/
def execRrca (s : State) : StepResult := .next (s.rotA .rrc)

/-- `RLA` (17), R192. -/
def execRla (s : State) : StepResult := .next (s.rotA .rl)

/-- `RRA` (1F), R193. -/
def execRra (s : State) : StepResult := .next (s.rotA .rr)

/-- `PREFIX CB` (CB), R99. -/
def execPrefixCb (s : State) : StepResult := .next (s.prefixed)

/-- `RLC B` (CB 00), R195. -/
def execRlcB (s : State) : StepResult := .next (s.rotR8 .rlc .b)

/-- `RLC C` (CB 01), R195. -/
def execRlcC (s : State) : StepResult := .next (s.rotR8 .rlc .c)

/-- `RLC D` (CB 02), R195. -/
def execRlcD (s : State) : StepResult := .next (s.rotR8 .rlc .d)

/-- `RLC E` (CB 03), R195. -/
def execRlcE (s : State) : StepResult := .next (s.rotR8 .rlc .e)

/-- `RLC H` (CB 04), R195. -/
def execRlcH (s : State) : StepResult := .next (s.rotR8 .rlc .h)

/-- `RLC L` (CB 05), R195. -/
def execRlcL (s : State) : StepResult := .next (s.rotR8 .rlc .l)

/-- `RLC (HL)` (CB 06), R195. -/
def execRlcMemHl (s : State) : StepResult := .next (s.rotR8 .rlc .memHl)

/-- `RLC A` (CB 07), R195. -/
def execRlcA (s : State) : StepResult := .next (s.rotR8 .rlc .a)

/-- `RRC B` (CB 08), R196. -/
def execRrcB (s : State) : StepResult := .next (s.rotR8 .rrc .b)

/-- `RRC C` (CB 09), R196. -/
def execRrcC (s : State) : StepResult := .next (s.rotR8 .rrc .c)

/-- `RRC D` (CB 0A), R196. -/
def execRrcD (s : State) : StepResult := .next (s.rotR8 .rrc .d)

/-- `RRC E` (CB 0B), R196. -/
def execRrcE (s : State) : StepResult := .next (s.rotR8 .rrc .e)

/-- `RRC H` (CB 0C), R196. -/
def execRrcH (s : State) : StepResult := .next (s.rotR8 .rrc .h)

/-- `RRC L` (CB 0D), R196. -/
def execRrcL (s : State) : StepResult := .next (s.rotR8 .rrc .l)

/-- `RRC (HL)` (CB 0E), R196. -/
def execRrcMemHl (s : State) : StepResult := .next (s.rotR8 .rrc .memHl)

/-- `RRC A` (CB 0F), R196. -/
def execRrcA (s : State) : StepResult := .next (s.rotR8 .rrc .a)

/-- `RL B` (CB 10), R197. -/
def execRlB (s : State) : StepResult := .next (s.rotR8 .rl .b)

/-- `RL C` (CB 11), R197. -/
def execRlC (s : State) : StepResult := .next (s.rotR8 .rl .c)

/-- `RL D` (CB 12), R197. -/
def execRlD (s : State) : StepResult := .next (s.rotR8 .rl .d)

/-- `RL E` (CB 13), R197. -/
def execRlE (s : State) : StepResult := .next (s.rotR8 .rl .e)

/-- `RL H` (CB 14), R197. -/
def execRlH (s : State) : StepResult := .next (s.rotR8 .rl .h)

/-- `RL L` (CB 15), R197. -/
def execRlL (s : State) : StepResult := .next (s.rotR8 .rl .l)

/-- `RL (HL)` (CB 16), R197. -/
def execRlMemHl (s : State) : StepResult := .next (s.rotR8 .rl .memHl)

/-- `RL A` (CB 17), R197. -/
def execRlA (s : State) : StepResult := .next (s.rotR8 .rl .a)

/-- `RR B` (CB 18), R198. -/
def execRrB (s : State) : StepResult := .next (s.rotR8 .rr .b)

/-- `RR C` (CB 19), R198. -/
def execRrC (s : State) : StepResult := .next (s.rotR8 .rr .c)

/-- `RR D` (CB 1A), R198. -/
def execRrD (s : State) : StepResult := .next (s.rotR8 .rr .d)

/-- `RR E` (CB 1B), R198. -/
def execRrE (s : State) : StepResult := .next (s.rotR8 .rr .e)

/-- `RR H` (CB 1C), R198. -/
def execRrH (s : State) : StepResult := .next (s.rotR8 .rr .h)

/-- `RR L` (CB 1D), R198. -/
def execRrL (s : State) : StepResult := .next (s.rotR8 .rr .l)

/-- `RR (HL)` (CB 1E), R198. -/
def execRrMemHl (s : State) : StepResult := .next (s.rotR8 .rr .memHl)

/-- `RR A` (CB 1F), R198. -/
def execRrA (s : State) : StepResult := .next (s.rotR8 .rr .a)

/-- `SLA B` (CB 20), R199. -/
def execSlaB (s : State) : StepResult := .next (s.rotR8 .sla .b)

/-- `SLA C` (CB 21), R199. -/
def execSlaC (s : State) : StepResult := .next (s.rotR8 .sla .c)

/-- `SLA D` (CB 22), R199. -/
def execSlaD (s : State) : StepResult := .next (s.rotR8 .sla .d)

/-- `SLA E` (CB 23), R199. -/
def execSlaE (s : State) : StepResult := .next (s.rotR8 .sla .e)

/-- `SLA H` (CB 24), R199. -/
def execSlaH (s : State) : StepResult := .next (s.rotR8 .sla .h)

/-- `SLA L` (CB 25), R199. -/
def execSlaL (s : State) : StepResult := .next (s.rotR8 .sla .l)

/-- `SLA (HL)` (CB 26), R199. -/
def execSlaMemHl (s : State) : StepResult := .next (s.rotR8 .sla .memHl)

/-- `SLA A` (CB 27), R199. -/
def execSlaA (s : State) : StepResult := .next (s.rotR8 .sla .a)

/-- `SRA B` (CB 28), R200. -/
def execSraB (s : State) : StepResult := .next (s.rotR8 .sra .b)

/-- `SRA C` (CB 29), R200. -/
def execSraC (s : State) : StepResult := .next (s.rotR8 .sra .c)

/-- `SRA D` (CB 2A), R200. -/
def execSraD (s : State) : StepResult := .next (s.rotR8 .sra .d)

/-- `SRA E` (CB 2B), R200. -/
def execSraE (s : State) : StepResult := .next (s.rotR8 .sra .e)

/-- `SRA H` (CB 2C), R200. -/
def execSraH (s : State) : StepResult := .next (s.rotR8 .sra .h)

/-- `SRA L` (CB 2D), R200. -/
def execSraL (s : State) : StepResult := .next (s.rotR8 .sra .l)

/-- `SRA (HL)` (CB 2E), R200. -/
def execSraMemHl (s : State) : StepResult := .next (s.rotR8 .sra .memHl)

/-- `SRA A` (CB 2F), R200. -/
def execSraA (s : State) : StepResult := .next (s.rotR8 .sra .a)

/-- `SWAP B` (CB 30), R201. -/
def execSwapB (s : State) : StepResult := .next (s.rotR8 .swap .b)

/-- `SWAP C` (CB 31), R201. -/
def execSwapC (s : State) : StepResult := .next (s.rotR8 .swap .c)

/-- `SWAP D` (CB 32), R201. -/
def execSwapD (s : State) : StepResult := .next (s.rotR8 .swap .d)

/-- `SWAP E` (CB 33), R201. -/
def execSwapE (s : State) : StepResult := .next (s.rotR8 .swap .e)

/-- `SWAP H` (CB 34), R201. -/
def execSwapH (s : State) : StepResult := .next (s.rotR8 .swap .h)

/-- `SWAP L` (CB 35), R201. -/
def execSwapL (s : State) : StepResult := .next (s.rotR8 .swap .l)

/-- `SWAP (HL)` (CB 36), R201. -/
def execSwapMemHl (s : State) : StepResult := .next (s.rotR8 .swap .memHl)

/-- `SWAP A` (CB 37), R201. -/
def execSwapA (s : State) : StepResult := .next (s.rotR8 .swap .a)

/-- `SRL B` (CB 38), R202. -/
def execSrlB (s : State) : StepResult := .next (s.rotR8 .srl .b)

/-- `SRL C` (CB 39), R202. -/
def execSrlC (s : State) : StepResult := .next (s.rotR8 .srl .c)

/-- `SRL D` (CB 3A), R202. -/
def execSrlD (s : State) : StepResult := .next (s.rotR8 .srl .d)

/-- `SRL E` (CB 3B), R202. -/
def execSrlE (s : State) : StepResult := .next (s.rotR8 .srl .e)

/-- `SRL H` (CB 3C), R202. -/
def execSrlH (s : State) : StepResult := .next (s.rotR8 .srl .h)

/-- `SRL L` (CB 3D), R202. -/
def execSrlL (s : State) : StepResult := .next (s.rotR8 .srl .l)

/-- `SRL (HL)` (CB 3E), R202. -/
def execSrlMemHl (s : State) : StepResult := .next (s.rotR8 .srl .memHl)

/-- `SRL A` (CB 3F), R202. -/
def execSrlA (s : State) : StepResult := .next (s.rotR8 .srl .a)

/-- `BIT 0,B` (CB 40), R203. -/
def execBit0B (s : State) : StepResult := .next (s.bitR8 .n0 .b)

/-- `BIT 0,C` (CB 41), R203. -/
def execBit0C (s : State) : StepResult := .next (s.bitR8 .n0 .c)

/-- `BIT 0,D` (CB 42), R203. -/
def execBit0D (s : State) : StepResult := .next (s.bitR8 .n0 .d)

/-- `BIT 0,E` (CB 43), R203. -/
def execBit0E (s : State) : StepResult := .next (s.bitR8 .n0 .e)

/-- `BIT 0,H` (CB 44), R203. -/
def execBit0H (s : State) : StepResult := .next (s.bitR8 .n0 .h)

/-- `BIT 0,L` (CB 45), R203. -/
def execBit0L (s : State) : StepResult := .next (s.bitR8 .n0 .l)

/-- `BIT 0,(HL)` (CB 46), R203. -/
def execBit0MemHl (s : State) : StepResult := .next (s.bitR8 .n0 .memHl)

/-- `BIT 0,A` (CB 47), R203. -/
def execBit0A (s : State) : StepResult := .next (s.bitR8 .n0 .a)

/-- `BIT 1,B` (CB 48), R203. -/
def execBit1B (s : State) : StepResult := .next (s.bitR8 .n1 .b)

/-- `BIT 1,C` (CB 49), R203. -/
def execBit1C (s : State) : StepResult := .next (s.bitR8 .n1 .c)

/-- `BIT 1,D` (CB 4A), R203. -/
def execBit1D (s : State) : StepResult := .next (s.bitR8 .n1 .d)

/-- `BIT 1,E` (CB 4B), R203. -/
def execBit1E (s : State) : StepResult := .next (s.bitR8 .n1 .e)

/-- `BIT 1,H` (CB 4C), R203. -/
def execBit1H (s : State) : StepResult := .next (s.bitR8 .n1 .h)

/-- `BIT 1,L` (CB 4D), R203. -/
def execBit1L (s : State) : StepResult := .next (s.bitR8 .n1 .l)

/-- `BIT 1,(HL)` (CB 4E), R203. -/
def execBit1MemHl (s : State) : StepResult := .next (s.bitR8 .n1 .memHl)

/-- `BIT 1,A` (CB 4F), R203. -/
def execBit1A (s : State) : StepResult := .next (s.bitR8 .n1 .a)

/-- `BIT 2,B` (CB 50), R203. -/
def execBit2B (s : State) : StepResult := .next (s.bitR8 .n2 .b)

/-- `BIT 2,C` (CB 51), R203. -/
def execBit2C (s : State) : StepResult := .next (s.bitR8 .n2 .c)

/-- `BIT 2,D` (CB 52), R203. -/
def execBit2D (s : State) : StepResult := .next (s.bitR8 .n2 .d)

/-- `BIT 2,E` (CB 53), R203. -/
def execBit2E (s : State) : StepResult := .next (s.bitR8 .n2 .e)

/-- `BIT 2,H` (CB 54), R203. -/
def execBit2H (s : State) : StepResult := .next (s.bitR8 .n2 .h)

/-- `BIT 2,L` (CB 55), R203. -/
def execBit2L (s : State) : StepResult := .next (s.bitR8 .n2 .l)

/-- `BIT 2,(HL)` (CB 56), R203. -/
def execBit2MemHl (s : State) : StepResult := .next (s.bitR8 .n2 .memHl)

/-- `BIT 2,A` (CB 57), R203. -/
def execBit2A (s : State) : StepResult := .next (s.bitR8 .n2 .a)

/-- `BIT 3,B` (CB 58), R203. -/
def execBit3B (s : State) : StepResult := .next (s.bitR8 .n3 .b)

/-- `BIT 3,C` (CB 59), R203. -/
def execBit3C (s : State) : StepResult := .next (s.bitR8 .n3 .c)

/-- `BIT 3,D` (CB 5A), R203. -/
def execBit3D (s : State) : StepResult := .next (s.bitR8 .n3 .d)

/-- `BIT 3,E` (CB 5B), R203. -/
def execBit3E (s : State) : StepResult := .next (s.bitR8 .n3 .e)

/-- `BIT 3,H` (CB 5C), R203. -/
def execBit3H (s : State) : StepResult := .next (s.bitR8 .n3 .h)

/-- `BIT 3,L` (CB 5D), R203. -/
def execBit3L (s : State) : StepResult := .next (s.bitR8 .n3 .l)

/-- `BIT 3,(HL)` (CB 5E), R203. -/
def execBit3MemHl (s : State) : StepResult := .next (s.bitR8 .n3 .memHl)

/-- `BIT 3,A` (CB 5F), R203. -/
def execBit3A (s : State) : StepResult := .next (s.bitR8 .n3 .a)

/-- `BIT 4,B` (CB 60), R203. -/
def execBit4B (s : State) : StepResult := .next (s.bitR8 .n4 .b)

/-- `BIT 4,C` (CB 61), R203. -/
def execBit4C (s : State) : StepResult := .next (s.bitR8 .n4 .c)

/-- `BIT 4,D` (CB 62), R203. -/
def execBit4D (s : State) : StepResult := .next (s.bitR8 .n4 .d)

/-- `BIT 4,E` (CB 63), R203. -/
def execBit4E (s : State) : StepResult := .next (s.bitR8 .n4 .e)

/-- `BIT 4,H` (CB 64), R203. -/
def execBit4H (s : State) : StepResult := .next (s.bitR8 .n4 .h)

/-- `BIT 4,L` (CB 65), R203. -/
def execBit4L (s : State) : StepResult := .next (s.bitR8 .n4 .l)

/-- `BIT 4,(HL)` (CB 66), R203. -/
def execBit4MemHl (s : State) : StepResult := .next (s.bitR8 .n4 .memHl)

/-- `BIT 4,A` (CB 67), R203. -/
def execBit4A (s : State) : StepResult := .next (s.bitR8 .n4 .a)

/-- `BIT 5,B` (CB 68), R203. -/
def execBit5B (s : State) : StepResult := .next (s.bitR8 .n5 .b)

/-- `BIT 5,C` (CB 69), R203. -/
def execBit5C (s : State) : StepResult := .next (s.bitR8 .n5 .c)

/-- `BIT 5,D` (CB 6A), R203. -/
def execBit5D (s : State) : StepResult := .next (s.bitR8 .n5 .d)

/-- `BIT 5,E` (CB 6B), R203. -/
def execBit5E (s : State) : StepResult := .next (s.bitR8 .n5 .e)

/-- `BIT 5,H` (CB 6C), R203. -/
def execBit5H (s : State) : StepResult := .next (s.bitR8 .n5 .h)

/-- `BIT 5,L` (CB 6D), R203. -/
def execBit5L (s : State) : StepResult := .next (s.bitR8 .n5 .l)

/-- `BIT 5,(HL)` (CB 6E), R203. -/
def execBit5MemHl (s : State) : StepResult := .next (s.bitR8 .n5 .memHl)

/-- `BIT 5,A` (CB 6F), R203. -/
def execBit5A (s : State) : StepResult := .next (s.bitR8 .n5 .a)

/-- `BIT 6,B` (CB 70), R203. -/
def execBit6B (s : State) : StepResult := .next (s.bitR8 .n6 .b)

/-- `BIT 6,C` (CB 71), R203. -/
def execBit6C (s : State) : StepResult := .next (s.bitR8 .n6 .c)

/-- `BIT 6,D` (CB 72), R203. -/
def execBit6D (s : State) : StepResult := .next (s.bitR8 .n6 .d)

/-- `BIT 6,E` (CB 73), R203. -/
def execBit6E (s : State) : StepResult := .next (s.bitR8 .n6 .e)

/-- `BIT 6,H` (CB 74), R203. -/
def execBit6H (s : State) : StepResult := .next (s.bitR8 .n6 .h)

/-- `BIT 6,L` (CB 75), R203. -/
def execBit6L (s : State) : StepResult := .next (s.bitR8 .n6 .l)

/-- `BIT 6,(HL)` (CB 76), R203. -/
def execBit6MemHl (s : State) : StepResult := .next (s.bitR8 .n6 .memHl)

/-- `BIT 6,A` (CB 77), R203. -/
def execBit6A (s : State) : StepResult := .next (s.bitR8 .n6 .a)

/-- `BIT 7,B` (CB 78), R203. -/
def execBit7B (s : State) : StepResult := .next (s.bitR8 .n7 .b)

/-- `BIT 7,C` (CB 79), R203. -/
def execBit7C (s : State) : StepResult := .next (s.bitR8 .n7 .c)

/-- `BIT 7,D` (CB 7A), R203. -/
def execBit7D (s : State) : StepResult := .next (s.bitR8 .n7 .d)

/-- `BIT 7,E` (CB 7B), R203. -/
def execBit7E (s : State) : StepResult := .next (s.bitR8 .n7 .e)

/-- `BIT 7,H` (CB 7C), R203. -/
def execBit7H (s : State) : StepResult := .next (s.bitR8 .n7 .h)

/-- `BIT 7,L` (CB 7D), R203. -/
def execBit7L (s : State) : StepResult := .next (s.bitR8 .n7 .l)

/-- `BIT 7,(HL)` (CB 7E), R203. -/
def execBit7MemHl (s : State) : StepResult := .next (s.bitR8 .n7 .memHl)

/-- `BIT 7,A` (CB 7F), R203. -/
def execBit7A (s : State) : StepResult := .next (s.bitR8 .n7 .a)

/-- `RES 0,B` (CB 80), R204. -/
def execRes0B (s : State) : StepResult := .next (s.resR8 .n0 .b)

/-- `RES 0,C` (CB 81), R204. -/
def execRes0C (s : State) : StepResult := .next (s.resR8 .n0 .c)

/-- `RES 0,D` (CB 82), R204. -/
def execRes0D (s : State) : StepResult := .next (s.resR8 .n0 .d)

/-- `RES 0,E` (CB 83), R204. -/
def execRes0E (s : State) : StepResult := .next (s.resR8 .n0 .e)

/-- `RES 0,H` (CB 84), R204. -/
def execRes0H (s : State) : StepResult := .next (s.resR8 .n0 .h)

/-- `RES 0,L` (CB 85), R204. -/
def execRes0L (s : State) : StepResult := .next (s.resR8 .n0 .l)

/-- `RES 0,(HL)` (CB 86), R204. -/
def execRes0MemHl (s : State) : StepResult := .next (s.resR8 .n0 .memHl)

/-- `RES 0,A` (CB 87), R204. -/
def execRes0A (s : State) : StepResult := .next (s.resR8 .n0 .a)

/-- `RES 1,B` (CB 88), R204. -/
def execRes1B (s : State) : StepResult := .next (s.resR8 .n1 .b)

/-- `RES 1,C` (CB 89), R204. -/
def execRes1C (s : State) : StepResult := .next (s.resR8 .n1 .c)

/-- `RES 1,D` (CB 8A), R204. -/
def execRes1D (s : State) : StepResult := .next (s.resR8 .n1 .d)

/-- `RES 1,E` (CB 8B), R204. -/
def execRes1E (s : State) : StepResult := .next (s.resR8 .n1 .e)

/-- `RES 1,H` (CB 8C), R204. -/
def execRes1H (s : State) : StepResult := .next (s.resR8 .n1 .h)

/-- `RES 1,L` (CB 8D), R204. -/
def execRes1L (s : State) : StepResult := .next (s.resR8 .n1 .l)

/-- `RES 1,(HL)` (CB 8E), R204. -/
def execRes1MemHl (s : State) : StepResult := .next (s.resR8 .n1 .memHl)

/-- `RES 1,A` (CB 8F), R204. -/
def execRes1A (s : State) : StepResult := .next (s.resR8 .n1 .a)

/-- `RES 2,B` (CB 90), R204. -/
def execRes2B (s : State) : StepResult := .next (s.resR8 .n2 .b)

/-- `RES 2,C` (CB 91), R204. -/
def execRes2C (s : State) : StepResult := .next (s.resR8 .n2 .c)

/-- `RES 2,D` (CB 92), R204. -/
def execRes2D (s : State) : StepResult := .next (s.resR8 .n2 .d)

/-- `RES 2,E` (CB 93), R204. -/
def execRes2E (s : State) : StepResult := .next (s.resR8 .n2 .e)

/-- `RES 2,H` (CB 94), R204. -/
def execRes2H (s : State) : StepResult := .next (s.resR8 .n2 .h)

/-- `RES 2,L` (CB 95), R204. -/
def execRes2L (s : State) : StepResult := .next (s.resR8 .n2 .l)

/-- `RES 2,(HL)` (CB 96), R204. -/
def execRes2MemHl (s : State) : StepResult := .next (s.resR8 .n2 .memHl)

/-- `RES 2,A` (CB 97), R204. -/
def execRes2A (s : State) : StepResult := .next (s.resR8 .n2 .a)

/-- `RES 3,B` (CB 98), R204. -/
def execRes3B (s : State) : StepResult := .next (s.resR8 .n3 .b)

/-- `RES 3,C` (CB 99), R204. -/
def execRes3C (s : State) : StepResult := .next (s.resR8 .n3 .c)

/-- `RES 3,D` (CB 9A), R204. -/
def execRes3D (s : State) : StepResult := .next (s.resR8 .n3 .d)

/-- `RES 3,E` (CB 9B), R204. -/
def execRes3E (s : State) : StepResult := .next (s.resR8 .n3 .e)

/-- `RES 3,H` (CB 9C), R204. -/
def execRes3H (s : State) : StepResult := .next (s.resR8 .n3 .h)

/-- `RES 3,L` (CB 9D), R204. -/
def execRes3L (s : State) : StepResult := .next (s.resR8 .n3 .l)

/-- `RES 3,(HL)` (CB 9E), R204. -/
def execRes3MemHl (s : State) : StepResult := .next (s.resR8 .n3 .memHl)

/-- `RES 3,A` (CB 9F), R204. -/
def execRes3A (s : State) : StepResult := .next (s.resR8 .n3 .a)

/-- `RES 4,B` (CB A0), R204. -/
def execRes4B (s : State) : StepResult := .next (s.resR8 .n4 .b)

/-- `RES 4,C` (CB A1), R204. -/
def execRes4C (s : State) : StepResult := .next (s.resR8 .n4 .c)

/-- `RES 4,D` (CB A2), R204. -/
def execRes4D (s : State) : StepResult := .next (s.resR8 .n4 .d)

/-- `RES 4,E` (CB A3), R204. -/
def execRes4E (s : State) : StepResult := .next (s.resR8 .n4 .e)

/-- `RES 4,H` (CB A4), R204. -/
def execRes4H (s : State) : StepResult := .next (s.resR8 .n4 .h)

/-- `RES 4,L` (CB A5), R204. -/
def execRes4L (s : State) : StepResult := .next (s.resR8 .n4 .l)

/-- `RES 4,(HL)` (CB A6), R204. -/
def execRes4MemHl (s : State) : StepResult := .next (s.resR8 .n4 .memHl)

/-- `RES 4,A` (CB A7), R204. -/
def execRes4A (s : State) : StepResult := .next (s.resR8 .n4 .a)

/-- `RES 5,B` (CB A8), R204. -/
def execRes5B (s : State) : StepResult := .next (s.resR8 .n5 .b)

/-- `RES 5,C` (CB A9), R204. -/
def execRes5C (s : State) : StepResult := .next (s.resR8 .n5 .c)

/-- `RES 5,D` (CB AA), R204. -/
def execRes5D (s : State) : StepResult := .next (s.resR8 .n5 .d)

/-- `RES 5,E` (CB AB), R204. -/
def execRes5E (s : State) : StepResult := .next (s.resR8 .n5 .e)

/-- `RES 5,H` (CB AC), R204. -/
def execRes5H (s : State) : StepResult := .next (s.resR8 .n5 .h)

/-- `RES 5,L` (CB AD), R204. -/
def execRes5L (s : State) : StepResult := .next (s.resR8 .n5 .l)

/-- `RES 5,(HL)` (CB AE), R204. -/
def execRes5MemHl (s : State) : StepResult := .next (s.resR8 .n5 .memHl)

/-- `RES 5,A` (CB AF), R204. -/
def execRes5A (s : State) : StepResult := .next (s.resR8 .n5 .a)

/-- `RES 6,B` (CB B0), R204. -/
def execRes6B (s : State) : StepResult := .next (s.resR8 .n6 .b)

/-- `RES 6,C` (CB B1), R204. -/
def execRes6C (s : State) : StepResult := .next (s.resR8 .n6 .c)

/-- `RES 6,D` (CB B2), R204. -/
def execRes6D (s : State) : StepResult := .next (s.resR8 .n6 .d)

/-- `RES 6,E` (CB B3), R204. -/
def execRes6E (s : State) : StepResult := .next (s.resR8 .n6 .e)

/-- `RES 6,H` (CB B4), R204. -/
def execRes6H (s : State) : StepResult := .next (s.resR8 .n6 .h)

/-- `RES 6,L` (CB B5), R204. -/
def execRes6L (s : State) : StepResult := .next (s.resR8 .n6 .l)

/-- `RES 6,(HL)` (CB B6), R204. -/
def execRes6MemHl (s : State) : StepResult := .next (s.resR8 .n6 .memHl)

/-- `RES 6,A` (CB B7), R204. -/
def execRes6A (s : State) : StepResult := .next (s.resR8 .n6 .a)

/-- `RES 7,B` (CB B8), R204. -/
def execRes7B (s : State) : StepResult := .next (s.resR8 .n7 .b)

/-- `RES 7,C` (CB B9), R204. -/
def execRes7C (s : State) : StepResult := .next (s.resR8 .n7 .c)

/-- `RES 7,D` (CB BA), R204. -/
def execRes7D (s : State) : StepResult := .next (s.resR8 .n7 .d)

/-- `RES 7,E` (CB BB), R204. -/
def execRes7E (s : State) : StepResult := .next (s.resR8 .n7 .e)

/-- `RES 7,H` (CB BC), R204. -/
def execRes7H (s : State) : StepResult := .next (s.resR8 .n7 .h)

/-- `RES 7,L` (CB BD), R204. -/
def execRes7L (s : State) : StepResult := .next (s.resR8 .n7 .l)

/-- `RES 7,(HL)` (CB BE), R204. -/
def execRes7MemHl (s : State) : StepResult := .next (s.resR8 .n7 .memHl)

/-- `RES 7,A` (CB BF), R204. -/
def execRes7A (s : State) : StepResult := .next (s.resR8 .n7 .a)

/-- `SET 0,B` (CB C0), R205. -/
def execSet0B (s : State) : StepResult := .next (s.setBitR8 .n0 .b)

/-- `SET 0,C` (CB C1), R205. -/
def execSet0C (s : State) : StepResult := .next (s.setBitR8 .n0 .c)

/-- `SET 0,D` (CB C2), R205. -/
def execSet0D (s : State) : StepResult := .next (s.setBitR8 .n0 .d)

/-- `SET 0,E` (CB C3), R205. -/
def execSet0E (s : State) : StepResult := .next (s.setBitR8 .n0 .e)

/-- `SET 0,H` (CB C4), R205. -/
def execSet0H (s : State) : StepResult := .next (s.setBitR8 .n0 .h)

/-- `SET 0,L` (CB C5), R205. -/
def execSet0L (s : State) : StepResult := .next (s.setBitR8 .n0 .l)

/-- `SET 0,(HL)` (CB C6), R205. -/
def execSet0MemHl (s : State) : StepResult := .next (s.setBitR8 .n0 .memHl)

/-- `SET 0,A` (CB C7), R205. -/
def execSet0A (s : State) : StepResult := .next (s.setBitR8 .n0 .a)

/-- `SET 1,B` (CB C8), R205. -/
def execSet1B (s : State) : StepResult := .next (s.setBitR8 .n1 .b)

/-- `SET 1,C` (CB C9), R205. -/
def execSet1C (s : State) : StepResult := .next (s.setBitR8 .n1 .c)

/-- `SET 1,D` (CB CA), R205. -/
def execSet1D (s : State) : StepResult := .next (s.setBitR8 .n1 .d)

/-- `SET 1,E` (CB CB), R205. -/
def execSet1E (s : State) : StepResult := .next (s.setBitR8 .n1 .e)

/-- `SET 1,H` (CB CC), R205. -/
def execSet1H (s : State) : StepResult := .next (s.setBitR8 .n1 .h)

/-- `SET 1,L` (CB CD), R205. -/
def execSet1L (s : State) : StepResult := .next (s.setBitR8 .n1 .l)

/-- `SET 1,(HL)` (CB CE), R205. -/
def execSet1MemHl (s : State) : StepResult := .next (s.setBitR8 .n1 .memHl)

/-- `SET 1,A` (CB CF), R205. -/
def execSet1A (s : State) : StepResult := .next (s.setBitR8 .n1 .a)

/-- `SET 2,B` (CB D0), R205. -/
def execSet2B (s : State) : StepResult := .next (s.setBitR8 .n2 .b)

/-- `SET 2,C` (CB D1), R205. -/
def execSet2C (s : State) : StepResult := .next (s.setBitR8 .n2 .c)

/-- `SET 2,D` (CB D2), R205. -/
def execSet2D (s : State) : StepResult := .next (s.setBitR8 .n2 .d)

/-- `SET 2,E` (CB D3), R205. -/
def execSet2E (s : State) : StepResult := .next (s.setBitR8 .n2 .e)

/-- `SET 2,H` (CB D4), R205. -/
def execSet2H (s : State) : StepResult := .next (s.setBitR8 .n2 .h)

/-- `SET 2,L` (CB D5), R205. -/
def execSet2L (s : State) : StepResult := .next (s.setBitR8 .n2 .l)

/-- `SET 2,(HL)` (CB D6), R205. -/
def execSet2MemHl (s : State) : StepResult := .next (s.setBitR8 .n2 .memHl)

/-- `SET 2,A` (CB D7), R205. -/
def execSet2A (s : State) : StepResult := .next (s.setBitR8 .n2 .a)

/-- `SET 3,B` (CB D8), R205. -/
def execSet3B (s : State) : StepResult := .next (s.setBitR8 .n3 .b)

/-- `SET 3,C` (CB D9), R205. -/
def execSet3C (s : State) : StepResult := .next (s.setBitR8 .n3 .c)

/-- `SET 3,D` (CB DA), R205. -/
def execSet3D (s : State) : StepResult := .next (s.setBitR8 .n3 .d)

/-- `SET 3,E` (CB DB), R205. -/
def execSet3E (s : State) : StepResult := .next (s.setBitR8 .n3 .e)

/-- `SET 3,H` (CB DC), R205. -/
def execSet3H (s : State) : StepResult := .next (s.setBitR8 .n3 .h)

/-- `SET 3,L` (CB DD), R205. -/
def execSet3L (s : State) : StepResult := .next (s.setBitR8 .n3 .l)

/-- `SET 3,(HL)` (CB DE), R205. -/
def execSet3MemHl (s : State) : StepResult := .next (s.setBitR8 .n3 .memHl)

/-- `SET 3,A` (CB DF), R205. -/
def execSet3A (s : State) : StepResult := .next (s.setBitR8 .n3 .a)

/-- `SET 4,B` (CB E0), R205. -/
def execSet4B (s : State) : StepResult := .next (s.setBitR8 .n4 .b)

/-- `SET 4,C` (CB E1), R205. -/
def execSet4C (s : State) : StepResult := .next (s.setBitR8 .n4 .c)

/-- `SET 4,D` (CB E2), R205. -/
def execSet4D (s : State) : StepResult := .next (s.setBitR8 .n4 .d)

/-- `SET 4,E` (CB E3), R205. -/
def execSet4E (s : State) : StepResult := .next (s.setBitR8 .n4 .e)

/-- `SET 4,H` (CB E4), R205. -/
def execSet4H (s : State) : StepResult := .next (s.setBitR8 .n4 .h)

/-- `SET 4,L` (CB E5), R205. -/
def execSet4L (s : State) : StepResult := .next (s.setBitR8 .n4 .l)

/-- `SET 4,(HL)` (CB E6), R205. -/
def execSet4MemHl (s : State) : StepResult := .next (s.setBitR8 .n4 .memHl)

/-- `SET 4,A` (CB E7), R205. -/
def execSet4A (s : State) : StepResult := .next (s.setBitR8 .n4 .a)

/-- `SET 5,B` (CB E8), R205. -/
def execSet5B (s : State) : StepResult := .next (s.setBitR8 .n5 .b)

/-- `SET 5,C` (CB E9), R205. -/
def execSet5C (s : State) : StepResult := .next (s.setBitR8 .n5 .c)

/-- `SET 5,D` (CB EA), R205. -/
def execSet5D (s : State) : StepResult := .next (s.setBitR8 .n5 .d)

/-- `SET 5,E` (CB EB), R205. -/
def execSet5E (s : State) : StepResult := .next (s.setBitR8 .n5 .e)

/-- `SET 5,H` (CB EC), R205. -/
def execSet5H (s : State) : StepResult := .next (s.setBitR8 .n5 .h)

/-- `SET 5,L` (CB ED), R205. -/
def execSet5L (s : State) : StepResult := .next (s.setBitR8 .n5 .l)

/-- `SET 5,(HL)` (CB EE), R205. -/
def execSet5MemHl (s : State) : StepResult := .next (s.setBitR8 .n5 .memHl)

/-- `SET 5,A` (CB EF), R205. -/
def execSet5A (s : State) : StepResult := .next (s.setBitR8 .n5 .a)

/-- `SET 6,B` (CB F0), R205. -/
def execSet6B (s : State) : StepResult := .next (s.setBitR8 .n6 .b)

/-- `SET 6,C` (CB F1), R205. -/
def execSet6C (s : State) : StepResult := .next (s.setBitR8 .n6 .c)

/-- `SET 6,D` (CB F2), R205. -/
def execSet6D (s : State) : StepResult := .next (s.setBitR8 .n6 .d)

/-- `SET 6,E` (CB F3), R205. -/
def execSet6E (s : State) : StepResult := .next (s.setBitR8 .n6 .e)

/-- `SET 6,H` (CB F4), R205. -/
def execSet6H (s : State) : StepResult := .next (s.setBitR8 .n6 .h)

/-- `SET 6,L` (CB F5), R205. -/
def execSet6L (s : State) : StepResult := .next (s.setBitR8 .n6 .l)

/-- `SET 6,(HL)` (CB F6), R205. -/
def execSet6MemHl (s : State) : StepResult := .next (s.setBitR8 .n6 .memHl)

/-- `SET 6,A` (CB F7), R205. -/
def execSet6A (s : State) : StepResult := .next (s.setBitR8 .n6 .a)

/-- `SET 7,B` (CB F8), R205. -/
def execSet7B (s : State) : StepResult := .next (s.setBitR8 .n7 .b)

/-- `SET 7,C` (CB F9), R205. -/
def execSet7C (s : State) : StepResult := .next (s.setBitR8 .n7 .c)

/-- `SET 7,D` (CB FA), R205. -/
def execSet7D (s : State) : StepResult := .next (s.setBitR8 .n7 .d)

/-- `SET 7,E` (CB FB), R205. -/
def execSet7E (s : State) : StepResult := .next (s.setBitR8 .n7 .e)

/-- `SET 7,H` (CB FC), R205. -/
def execSet7H (s : State) : StepResult := .next (s.setBitR8 .n7 .h)

/-- `SET 7,L` (CB FD), R205. -/
def execSet7L (s : State) : StepResult := .next (s.setBitR8 .n7 .l)

/-- `SET 7,(HL)` (CB FE), R205. -/
def execSet7MemHl (s : State) : StepResult := .next (s.setBitR8 .n7 .memHl)

/-- `SET 7,A` (CB FF), R205. -/
def execSet7A (s : State) : StepResult := .next (s.setBitR8 .n7 .a)

end Sys2Proof.Machine
end

