-- ==== Sys2Proof/Machine/System.lean ====
section
/-! DEFINITION. System instructions and the invalid opcodes (44_interrupt_halt_misc.md). -/
namespace Sys2Proof.Machine

/-- `HALT` (44_interrupt_halt_misc.md R251). With `HALTBUG_CONDITION = lr35902` (92_eei_decisions.md D14), executed
with IME = 0 and a pending and enabled interrupt it sets the halt-bug latch instead of halting (log 12). -/
def State.halt (s : State) : State :=
  match s.params.haltbugCondition with
  | .envOnly => s.setHalted true
  | .lr35902 =>
    if s.ime then s.setHalted true
    else if s.pendingMask = 0 then s.readPending.setHalted true
    else s.readPending.setHaltbug true

/-- The invalid-opcode trap (44_interrupt_halt_misc.md R255; 60_exceptions.md R350): a diagnostic record and
nothing else, or a fault by `INVALID_OPCODE_BEHAVIOUR`. -/
def State.raiseInvalid (s : State) (op : Byte) : StepResult :=
  match s.params.invalidOpcode with
  | .nop => .next (s.setOut { s.out with invalid := some { addr := s.out.iaddr, op := op } })
  | .fault => .fault (.invalidOpcode s.out.iaddr op)

/-- `STOP` by `STOP_BEHAVIOUR` (44_interrupt_halt_misc.md R254). The ignored byte of `nop2` has been fetched with
the instruction; under `invalid` the instruction is one byte long (log 15). -/
def State.stopBy (s : State) : StepResult :=
  match s.params.stop with
  | .refuse => .refused .stopRefused
  | .nop2 => .next s
  | .invalid => s.raiseInvalid 0x10

/-! ### One meaning per instruction -/

/-- `NOP` (00), R250. -/
def execNop (s : State) : StepResult := .next s

/-- `HALT` (76), R251. -/
def execHalt (s : State) : StepResult := .next (s.halt)

/-- `DI` (F3), R252. -/
def execDi (s : State) : StepResult := .next (s.setIme false)

/-- `EI` (FB), R253. -/
def execEi (s : State) : StepResult := .next (s.setIme true)

/-- `STOP` (10), R254: the byte after the opcode is ignored. -/
def execStop (_ignored : Byte) (s : State) : StepResult := s.stopBy

/-- `INVALID_D3` (D3), R255. -/
def execInvalidD3 (s : State) : StepResult := s.raiseInvalid 0xD3

/-- `INVALID_DB` (DB), R255. -/
def execInvalidDB (s : State) : StepResult := s.raiseInvalid 0xDB

/-- `INVALID_DD` (DD), R255. -/
def execInvalidDD (s : State) : StepResult := s.raiseInvalid 0xDD

/-- `INVALID_E3` (E3), R255. -/
def execInvalidE3 (s : State) : StepResult := s.raiseInvalid 0xE3

/-- `INVALID_E4` (E4), R255. -/
def execInvalidE4 (s : State) : StepResult := s.raiseInvalid 0xE4

/-- `INVALID_EB` (EB), R255. -/
def execInvalidEB (s : State) : StepResult := s.raiseInvalid 0xEB

/-- `INVALID_EC` (EC), R255. -/
def execInvalidEC (s : State) : StepResult := s.raiseInvalid 0xEC

/-- `INVALID_ED` (ED), R255. -/
def execInvalidED (s : State) : StepResult := s.raiseInvalid 0xED

/-- `INVALID_F4` (F4), R255. -/
def execInvalidF4 (s : State) : StepResult := s.raiseInvalid 0xF4

/-- `INVALID_FC` (FC), R255. -/
def execInvalidFC (s : State) : StepResult := s.raiseInvalid 0xFC

/-- `INVALID_FD` (FD), R255. -/
def execInvalidFD (s : State) : StepResult := s.raiseInvalid 0xFD

end Sys2Proof.Machine
end

