-- ==== Sys2Proof/Machine/Dispatch.lean ====
section
/-! DEFINITION. The dispatch: one arm per constructor of `Instr`, each one call of its meaning. PC has been advanced
past the instruction (00_scope.md R11). -/
namespace Sys2Proof.Machine

def exec (i : Instr) (s : State) : Host.Outcome State Fault Refusal :=
  match i with
  | .ldBcD16 d16 => Sys2Proof.Machine.execLdBcD16 d16 s
  | .ldBD8 d8 => Sys2Proof.Machine.execLdBD8 d8 s
  | .ldMemA16Sp a16 => Sys2Proof.Machine.execLdMemA16Sp a16 s
  | .ldCD8 d8 => Sys2Proof.Machine.execLdCD8 d8 s
  | .stop ignored => Sys2Proof.Machine.execStop ignored s
  | .ldDeD16 d16 => Sys2Proof.Machine.execLdDeD16 d16 s
  | .ldDD8 d8 => Sys2Proof.Machine.execLdDD8 d8 s
  | .jrE8 e8 => Sys2Proof.Machine.execJrE8 e8 s
  | .ldED8 d8 => Sys2Proof.Machine.execLdED8 d8 s
  | .jrNzE8 e8 => Sys2Proof.Machine.execJrNzE8 e8 s
  | .ldHlD16 d16 => Sys2Proof.Machine.execLdHlD16 d16 s
  | .ldHD8 d8 => Sys2Proof.Machine.execLdHD8 d8 s
  | .jrZE8 e8 => Sys2Proof.Machine.execJrZE8 e8 s
  | .ldLD8 d8 => Sys2Proof.Machine.execLdLD8 d8 s
  | .jrNcE8 e8 => Sys2Proof.Machine.execJrNcE8 e8 s
  | .ldSpD16 d16 => Sys2Proof.Machine.execLdSpD16 d16 s
  | .ldMemHlD8 d8 => Sys2Proof.Machine.execLdMemHlD8 d8 s
  | .jrCE8 e8 => Sys2Proof.Machine.execJrCE8 e8 s
  | .ldAD8 d8 => Sys2Proof.Machine.execLdAD8 d8 s
  | .jpNzA16 a16 => Sys2Proof.Machine.execJpNzA16 a16 s
  | .jpA16 a16 => Sys2Proof.Machine.execJpA16 a16 s
  | .callNzA16 a16 => Sys2Proof.Machine.execCallNzA16 a16 s
  | .addAD8 d8 => Sys2Proof.Machine.execAddAD8 d8 s
  | .jpZA16 a16 => Sys2Proof.Machine.execJpZA16 a16 s
  | .callZA16 a16 => Sys2Proof.Machine.execCallZA16 a16 s
  | .callA16 a16 => Sys2Proof.Machine.execCallA16 a16 s
  | .adcAD8 d8 => Sys2Proof.Machine.execAdcAD8 d8 s
  | .jpNcA16 a16 => Sys2Proof.Machine.execJpNcA16 a16 s
  | .callNcA16 a16 => Sys2Proof.Machine.execCallNcA16 a16 s
  | .subD8 d8 => Sys2Proof.Machine.execSubD8 d8 s
  | .jpCA16 a16 => Sys2Proof.Machine.execJpCA16 a16 s
  | .callCA16 a16 => Sys2Proof.Machine.execCallCA16 a16 s
  | .sbcAD8 d8 => Sys2Proof.Machine.execSbcAD8 d8 s
  | .ldhMemA8A a8 => Sys2Proof.Machine.execLdhMemA8A a8 s
  | .andD8 d8 => Sys2Proof.Machine.execAndD8 d8 s
  | .addSpE8 e8 => Sys2Proof.Machine.execAddSpE8 e8 s
  | .ldMemA16A a16 => Sys2Proof.Machine.execLdMemA16A a16 s
  | .xorD8 d8 => Sys2Proof.Machine.execXorD8 d8 s
  | .ldhAMemA8 a8 => Sys2Proof.Machine.execLdhAMemA8 a8 s
  | .orD8 d8 => Sys2Proof.Machine.execOrD8 d8 s
  | .ldHlSpE8 e8 => Sys2Proof.Machine.execLdHlSpE8 e8 s
  | .ldAMemA16 a16 => Sys2Proof.Machine.execLdAMemA16 a16 s
  | .cpD8 d8 => Sys2Proof.Machine.execCpD8 d8 s
  | .nop => Sys2Proof.Machine.execNop s
  | .ldMemBcA => Sys2Proof.Machine.execLdMemBcA s
  | .incBc => Sys2Proof.Machine.execIncBc s
  | .incB => Sys2Proof.Machine.execIncB s
  | .decB => Sys2Proof.Machine.execDecB s
  | .rlca => Sys2Proof.Machine.execRlca s
  | .addHlBc => Sys2Proof.Machine.execAddHlBc s
  | .ldAMemBc => Sys2Proof.Machine.execLdAMemBc s
  | .decBc => Sys2Proof.Machine.execDecBc s
  | .incC => Sys2Proof.Machine.execIncC s
  | .decC => Sys2Proof.Machine.execDecC s
  | .rrca => Sys2Proof.Machine.execRrca s
  | .ldMemDeA => Sys2Proof.Machine.execLdMemDeA s
  | .incDe => Sys2Proof.Machine.execIncDe s
  | .incD => Sys2Proof.Machine.execIncD s
  | .decD => Sys2Proof.Machine.execDecD s
  | .rla => Sys2Proof.Machine.execRla s
  | .addHlDe => Sys2Proof.Machine.execAddHlDe s
  | .ldAMemDe => Sys2Proof.Machine.execLdAMemDe s
  | .decDe => Sys2Proof.Machine.execDecDe s
  | .incE => Sys2Proof.Machine.execIncE s
  | .decE => Sys2Proof.Machine.execDecE s
  | .rra => Sys2Proof.Machine.execRra s
  | .ldMemHlIncA => Sys2Proof.Machine.execLdMemHlIncA s
  | .incHl => Sys2Proof.Machine.execIncHl s
  | .incH => Sys2Proof.Machine.execIncH s
  | .decH => Sys2Proof.Machine.execDecH s
  | .daa => Sys2Proof.Machine.execDaa s
  | .addHlHl => Sys2Proof.Machine.execAddHlHl s
  | .ldAMemHlInc => Sys2Proof.Machine.execLdAMemHlInc s
  | .decHl => Sys2Proof.Machine.execDecHl s
  | .incL => Sys2Proof.Machine.execIncL s
  | .decL => Sys2Proof.Machine.execDecL s
  | .cpl => Sys2Proof.Machine.execCpl s
  | .ldMemHlDecA => Sys2Proof.Machine.execLdMemHlDecA s
  | .incSp => Sys2Proof.Machine.execIncSp s
  | .incMemHl => Sys2Proof.Machine.execIncMemHl s
  | .decMemHl => Sys2Proof.Machine.execDecMemHl s
  | .scf => Sys2Proof.Machine.execScf s
  | .addHlSp => Sys2Proof.Machine.execAddHlSp s
  | .ldAMemHlDec => Sys2Proof.Machine.execLdAMemHlDec s
  | .decSp => Sys2Proof.Machine.execDecSp s
  | .incA => Sys2Proof.Machine.execIncA s
  | .decA => Sys2Proof.Machine.execDecA s
  | .ccf => Sys2Proof.Machine.execCcf s
  | .ldBB => Sys2Proof.Machine.execLdBB s
  | .ldBC => Sys2Proof.Machine.execLdBC s
  | .ldBD => Sys2Proof.Machine.execLdBD s
  | .ldBE => Sys2Proof.Machine.execLdBE s
  | .ldBH => Sys2Proof.Machine.execLdBH s
  | .ldBL => Sys2Proof.Machine.execLdBL s
  | .ldBMemHl => Sys2Proof.Machine.execLdBMemHl s
  | .ldBA => Sys2Proof.Machine.execLdBA s
  | .ldCB => Sys2Proof.Machine.execLdCB s
  | .ldCC => Sys2Proof.Machine.execLdCC s
  | .ldCD => Sys2Proof.Machine.execLdCD s
  | .ldCE => Sys2Proof.Machine.execLdCE s
  | .ldCH => Sys2Proof.Machine.execLdCH s
  | .ldCL => Sys2Proof.Machine.execLdCL s
  | .ldCMemHl => Sys2Proof.Machine.execLdCMemHl s
  | .ldCA => Sys2Proof.Machine.execLdCA s
  | .ldDB => Sys2Proof.Machine.execLdDB s
  | .ldDC => Sys2Proof.Machine.execLdDC s
  | .ldDD => Sys2Proof.Machine.execLdDD s
  | .ldDE => Sys2Proof.Machine.execLdDE s
  | .ldDH => Sys2Proof.Machine.execLdDH s
  | .ldDL => Sys2Proof.Machine.execLdDL s
  | .ldDMemHl => Sys2Proof.Machine.execLdDMemHl s
  | .ldDA => Sys2Proof.Machine.execLdDA s
  | .ldEB => Sys2Proof.Machine.execLdEB s
  | .ldEC => Sys2Proof.Machine.execLdEC s
  | .ldED => Sys2Proof.Machine.execLdED s
  | .ldEE => Sys2Proof.Machine.execLdEE s
  | .ldEH => Sys2Proof.Machine.execLdEH s
  | .ldEL => Sys2Proof.Machine.execLdEL s
  | .ldEMemHl => Sys2Proof.Machine.execLdEMemHl s
  | .ldEA => Sys2Proof.Machine.execLdEA s
  | .ldHB => Sys2Proof.Machine.execLdHB s
  | .ldHC => Sys2Proof.Machine.execLdHC s
  | .ldHD => Sys2Proof.Machine.execLdHD s
  | .ldHE => Sys2Proof.Machine.execLdHE s
  | .ldHH => Sys2Proof.Machine.execLdHH s
  | .ldHL => Sys2Proof.Machine.execLdHL s
  | .ldHMemHl => Sys2Proof.Machine.execLdHMemHl s
  | .ldHA => Sys2Proof.Machine.execLdHA s
  | .ldLB => Sys2Proof.Machine.execLdLB s
  | .ldLC => Sys2Proof.Machine.execLdLC s
  | .ldLD => Sys2Proof.Machine.execLdLD s
  | .ldLE => Sys2Proof.Machine.execLdLE s
  | .ldLH => Sys2Proof.Machine.execLdLH s
  | .ldLL => Sys2Proof.Machine.execLdLL s
  | .ldLMemHl => Sys2Proof.Machine.execLdLMemHl s
  | .ldLA => Sys2Proof.Machine.execLdLA s
  | .ldMemHlB => Sys2Proof.Machine.execLdMemHlB s
  | .ldMemHlC => Sys2Proof.Machine.execLdMemHlC s
  | .ldMemHlD => Sys2Proof.Machine.execLdMemHlD s
  | .ldMemHlE => Sys2Proof.Machine.execLdMemHlE s
  | .ldMemHlH => Sys2Proof.Machine.execLdMemHlH s
  | .ldMemHlL => Sys2Proof.Machine.execLdMemHlL s
  | .halt => Sys2Proof.Machine.execHalt s
  | .ldMemHlA => Sys2Proof.Machine.execLdMemHlA s
  | .ldAB => Sys2Proof.Machine.execLdAB s
  | .ldAC => Sys2Proof.Machine.execLdAC s
  | .ldAD => Sys2Proof.Machine.execLdAD s
  | .ldAE => Sys2Proof.Machine.execLdAE s
  | .ldAH => Sys2Proof.Machine.execLdAH s
  | .ldAL => Sys2Proof.Machine.execLdAL s
  | .ldAMemHl => Sys2Proof.Machine.execLdAMemHl s
  | .ldAA => Sys2Proof.Machine.execLdAA s
  | .addAB => Sys2Proof.Machine.execAddAB s
  | .addAC => Sys2Proof.Machine.execAddAC s
  | .addAD => Sys2Proof.Machine.execAddAD s
  | .addAE => Sys2Proof.Machine.execAddAE s
  | .addAH => Sys2Proof.Machine.execAddAH s
  | .addAL => Sys2Proof.Machine.execAddAL s
  | .addAMemHl => Sys2Proof.Machine.execAddAMemHl s
  | .addAA => Sys2Proof.Machine.execAddAA s
  | .adcAB => Sys2Proof.Machine.execAdcAB s
  | .adcAC => Sys2Proof.Machine.execAdcAC s
  | .adcAD => Sys2Proof.Machine.execAdcAD s
  | .adcAE => Sys2Proof.Machine.execAdcAE s
  | .adcAH => Sys2Proof.Machine.execAdcAH s
  | .adcAL => Sys2Proof.Machine.execAdcAL s
  | .adcAMemHl => Sys2Proof.Machine.execAdcAMemHl s
  | .adcAA => Sys2Proof.Machine.execAdcAA s
  | .subB => Sys2Proof.Machine.execSubB s
  | .subC => Sys2Proof.Machine.execSubC s
  | .subD => Sys2Proof.Machine.execSubD s
  | .subE => Sys2Proof.Machine.execSubE s
  | .subH => Sys2Proof.Machine.execSubH s
  | .subL => Sys2Proof.Machine.execSubL s
  | .subMemHl => Sys2Proof.Machine.execSubMemHl s
  | .subA => Sys2Proof.Machine.execSubA s
  | .sbcAB => Sys2Proof.Machine.execSbcAB s
  | .sbcAC => Sys2Proof.Machine.execSbcAC s
  | .sbcAD => Sys2Proof.Machine.execSbcAD s
  | .sbcAE => Sys2Proof.Machine.execSbcAE s
  | .sbcAH => Sys2Proof.Machine.execSbcAH s
  | .sbcAL => Sys2Proof.Machine.execSbcAL s
  | .sbcAMemHl => Sys2Proof.Machine.execSbcAMemHl s
  | .sbcAA => Sys2Proof.Machine.execSbcAA s
  | .andB => Sys2Proof.Machine.execAndB s
  | .andC => Sys2Proof.Machine.execAndC s
  | .andD => Sys2Proof.Machine.execAndD s
  | .andE => Sys2Proof.Machine.execAndE s
  | .andH => Sys2Proof.Machine.execAndH s
  | .andL => Sys2Proof.Machine.execAndL s
  | .andMemHl => Sys2Proof.Machine.execAndMemHl s
  | .andA => Sys2Proof.Machine.execAndA s
  | .xorB => Sys2Proof.Machine.execXorB s
  | .xorC => Sys2Proof.Machine.execXorC s
  | .xorD => Sys2Proof.Machine.execXorD s
  | .xorE => Sys2Proof.Machine.execXorE s
  | .xorH => Sys2Proof.Machine.execXorH s
  | .xorL => Sys2Proof.Machine.execXorL s
  | .xorMemHl => Sys2Proof.Machine.execXorMemHl s
  | .xorA => Sys2Proof.Machine.execXorA s
  | .orB => Sys2Proof.Machine.execOrB s
  | .orC => Sys2Proof.Machine.execOrC s
  | .orD => Sys2Proof.Machine.execOrD s
  | .orE => Sys2Proof.Machine.execOrE s
  | .orH => Sys2Proof.Machine.execOrH s
  | .orL => Sys2Proof.Machine.execOrL s
  | .orMemHl => Sys2Proof.Machine.execOrMemHl s
  | .orA => Sys2Proof.Machine.execOrA s
  | .cpB => Sys2Proof.Machine.execCpB s
  | .cpC => Sys2Proof.Machine.execCpC s
  | .cpD => Sys2Proof.Machine.execCpD s
  | .cpE => Sys2Proof.Machine.execCpE s
  | .cpH => Sys2Proof.Machine.execCpH s
  | .cpL => Sys2Proof.Machine.execCpL s
  | .cpMemHl => Sys2Proof.Machine.execCpMemHl s
  | .cpA => Sys2Proof.Machine.execCpA s
  | .retNz => Sys2Proof.Machine.execRetNz s
  | .popBc => Sys2Proof.Machine.execPopBc s
  | .pushBc => Sys2Proof.Machine.execPushBc s
  | .rst00H => Sys2Proof.Machine.execRst00H s
  | .retZ => Sys2Proof.Machine.execRetZ s
  | .ret => Sys2Proof.Machine.execRet s
  | .prefixCb => Sys2Proof.Machine.execPrefixCb s
  | .rst08H => Sys2Proof.Machine.execRst08H s
  | .retNc => Sys2Proof.Machine.execRetNc s
  | .popDe => Sys2Proof.Machine.execPopDe s
  | .invalidD3 => Sys2Proof.Machine.execInvalidD3 s
  | .pushDe => Sys2Proof.Machine.execPushDe s
  | .rst10H => Sys2Proof.Machine.execRst10H s
  | .retC => Sys2Proof.Machine.execRetC s
  | .reti => Sys2Proof.Machine.execReti s
  | .invalidDB => Sys2Proof.Machine.execInvalidDB s
  | .invalidDD => Sys2Proof.Machine.execInvalidDD s
  | .rst18H => Sys2Proof.Machine.execRst18H s
  | .popHl => Sys2Proof.Machine.execPopHl s
  | .ldMemCA => Sys2Proof.Machine.execLdMemCA s
  | .invalidE3 => Sys2Proof.Machine.execInvalidE3 s
  | .invalidE4 => Sys2Proof.Machine.execInvalidE4 s
  | .pushHl => Sys2Proof.Machine.execPushHl s
  | .rst20H => Sys2Proof.Machine.execRst20H s
  | .jpHl => Sys2Proof.Machine.execJpHl s
  | .invalidEB => Sys2Proof.Machine.execInvalidEB s
  | .invalidEC => Sys2Proof.Machine.execInvalidEC s
  | .invalidED => Sys2Proof.Machine.execInvalidED s
  | .rst28H => Sys2Proof.Machine.execRst28H s
  | .popAf => Sys2Proof.Machine.execPopAf s
  | .ldAMemC => Sys2Proof.Machine.execLdAMemC s
  | .di => Sys2Proof.Machine.execDi s
  | .invalidF4 => Sys2Proof.Machine.execInvalidF4 s
  | .pushAf => Sys2Proof.Machine.execPushAf s
  | .rst30H => Sys2Proof.Machine.execRst30H s
  | .ldSpHl => Sys2Proof.Machine.execLdSpHl s
  | .ei => Sys2Proof.Machine.execEi s
  | .invalidFC => Sys2Proof.Machine.execInvalidFC s
  | .invalidFD => Sys2Proof.Machine.execInvalidFD s
  | .rst38H => Sys2Proof.Machine.execRst38H s
  | .rlcB => Sys2Proof.Machine.execRlcB s
  | .rlcC => Sys2Proof.Machine.execRlcC s
  | .rlcD => Sys2Proof.Machine.execRlcD s
  | .rlcE => Sys2Proof.Machine.execRlcE s
  | .rlcH => Sys2Proof.Machine.execRlcH s
  | .rlcL => Sys2Proof.Machine.execRlcL s
  | .rlcMemHl => Sys2Proof.Machine.execRlcMemHl s
  | .rlcA => Sys2Proof.Machine.execRlcA s
  | .rrcB => Sys2Proof.Machine.execRrcB s
  | .rrcC => Sys2Proof.Machine.execRrcC s
  | .rrcD => Sys2Proof.Machine.execRrcD s
  | .rrcE => Sys2Proof.Machine.execRrcE s
  | .rrcH => Sys2Proof.Machine.execRrcH s
  | .rrcL => Sys2Proof.Machine.execRrcL s
  | .rrcMemHl => Sys2Proof.Machine.execRrcMemHl s
  | .rrcA => Sys2Proof.Machine.execRrcA s
  | .rlB => Sys2Proof.Machine.execRlB s
  | .rlC => Sys2Proof.Machine.execRlC s
  | .rlD => Sys2Proof.Machine.execRlD s
  | .rlE => Sys2Proof.Machine.execRlE s
  | .rlH => Sys2Proof.Machine.execRlH s
  | .rlL => Sys2Proof.Machine.execRlL s
  | .rlMemHl => Sys2Proof.Machine.execRlMemHl s
  | .rlA => Sys2Proof.Machine.execRlA s
  | .rrB => Sys2Proof.Machine.execRrB s
  | .rrC => Sys2Proof.Machine.execRrC s
  | .rrD => Sys2Proof.Machine.execRrD s
  | .rrE => Sys2Proof.Machine.execRrE s
  | .rrH => Sys2Proof.Machine.execRrH s
  | .rrL => Sys2Proof.Machine.execRrL s
  | .rrMemHl => Sys2Proof.Machine.execRrMemHl s
  | .rrA => Sys2Proof.Machine.execRrA s
  | .slaB => Sys2Proof.Machine.execSlaB s
  | .slaC => Sys2Proof.Machine.execSlaC s
  | .slaD => Sys2Proof.Machine.execSlaD s
  | .slaE => Sys2Proof.Machine.execSlaE s
  | .slaH => Sys2Proof.Machine.execSlaH s
  | .slaL => Sys2Proof.Machine.execSlaL s
  | .slaMemHl => Sys2Proof.Machine.execSlaMemHl s
  | .slaA => Sys2Proof.Machine.execSlaA s
  | .sraB => Sys2Proof.Machine.execSraB s
  | .sraC => Sys2Proof.Machine.execSraC s
  | .sraD => Sys2Proof.Machine.execSraD s
  | .sraE => Sys2Proof.Machine.execSraE s
  | .sraH => Sys2Proof.Machine.execSraH s
  | .sraL => Sys2Proof.Machine.execSraL s
  | .sraMemHl => Sys2Proof.Machine.execSraMemHl s
  | .sraA => Sys2Proof.Machine.execSraA s
  | .swapB => Sys2Proof.Machine.execSwapB s
  | .swapC => Sys2Proof.Machine.execSwapC s
  | .swapD => Sys2Proof.Machine.execSwapD s
  | .swapE => Sys2Proof.Machine.execSwapE s
  | .swapH => Sys2Proof.Machine.execSwapH s
  | .swapL => Sys2Proof.Machine.execSwapL s
  | .swapMemHl => Sys2Proof.Machine.execSwapMemHl s
  | .swapA => Sys2Proof.Machine.execSwapA s
  | .srlB => Sys2Proof.Machine.execSrlB s
  | .srlC => Sys2Proof.Machine.execSrlC s
  | .srlD => Sys2Proof.Machine.execSrlD s
  | .srlE => Sys2Proof.Machine.execSrlE s
  | .srlH => Sys2Proof.Machine.execSrlH s
  | .srlL => Sys2Proof.Machine.execSrlL s
  | .srlMemHl => Sys2Proof.Machine.execSrlMemHl s
  | .srlA => Sys2Proof.Machine.execSrlA s
  | .bit0B => Sys2Proof.Machine.execBit0B s
  | .bit0C => Sys2Proof.Machine.execBit0C s
  | .bit0D => Sys2Proof.Machine.execBit0D s
  | .bit0E => Sys2Proof.Machine.execBit0E s
  | .bit0H => Sys2Proof.Machine.execBit0H s
  | .bit0L => Sys2Proof.Machine.execBit0L s
  | .bit0MemHl => Sys2Proof.Machine.execBit0MemHl s
  | .bit0A => Sys2Proof.Machine.execBit0A s
  | .bit1B => Sys2Proof.Machine.execBit1B s
  | .bit1C => Sys2Proof.Machine.execBit1C s
  | .bit1D => Sys2Proof.Machine.execBit1D s
  | .bit1E => Sys2Proof.Machine.execBit1E s
  | .bit1H => Sys2Proof.Machine.execBit1H s
  | .bit1L => Sys2Proof.Machine.execBit1L s
  | .bit1MemHl => Sys2Proof.Machine.execBit1MemHl s
  | .bit1A => Sys2Proof.Machine.execBit1A s
  | .bit2B => Sys2Proof.Machine.execBit2B s
  | .bit2C => Sys2Proof.Machine.execBit2C s
  | .bit2D => Sys2Proof.Machine.execBit2D s
  | .bit2E => Sys2Proof.Machine.execBit2E s
  | .bit2H => Sys2Proof.Machine.execBit2H s
  | .bit2L => Sys2Proof.Machine.execBit2L s
  | .bit2MemHl => Sys2Proof.Machine.execBit2MemHl s
  | .bit2A => Sys2Proof.Machine.execBit2A s
  | .bit3B => Sys2Proof.Machine.execBit3B s
  | .bit3C => Sys2Proof.Machine.execBit3C s
  | .bit3D => Sys2Proof.Machine.execBit3D s
  | .bit3E => Sys2Proof.Machine.execBit3E s
  | .bit3H => Sys2Proof.Machine.execBit3H s
  | .bit3L => Sys2Proof.Machine.execBit3L s
  | .bit3MemHl => Sys2Proof.Machine.execBit3MemHl s
  | .bit3A => Sys2Proof.Machine.execBit3A s
  | .bit4B => Sys2Proof.Machine.execBit4B s
  | .bit4C => Sys2Proof.Machine.execBit4C s
  | .bit4D => Sys2Proof.Machine.execBit4D s
  | .bit4E => Sys2Proof.Machine.execBit4E s
  | .bit4H => Sys2Proof.Machine.execBit4H s
  | .bit4L => Sys2Proof.Machine.execBit4L s
  | .bit4MemHl => Sys2Proof.Machine.execBit4MemHl s
  | .bit4A => Sys2Proof.Machine.execBit4A s
  | .bit5B => Sys2Proof.Machine.execBit5B s
  | .bit5C => Sys2Proof.Machine.execBit5C s
  | .bit5D => Sys2Proof.Machine.execBit5D s
  | .bit5E => Sys2Proof.Machine.execBit5E s
  | .bit5H => Sys2Proof.Machine.execBit5H s
  | .bit5L => Sys2Proof.Machine.execBit5L s
  | .bit5MemHl => Sys2Proof.Machine.execBit5MemHl s
  | .bit5A => Sys2Proof.Machine.execBit5A s
  | .bit6B => Sys2Proof.Machine.execBit6B s
  | .bit6C => Sys2Proof.Machine.execBit6C s
  | .bit6D => Sys2Proof.Machine.execBit6D s
  | .bit6E => Sys2Proof.Machine.execBit6E s
  | .bit6H => Sys2Proof.Machine.execBit6H s
  | .bit6L => Sys2Proof.Machine.execBit6L s
  | .bit6MemHl => Sys2Proof.Machine.execBit6MemHl s
  | .bit6A => Sys2Proof.Machine.execBit6A s
  | .bit7B => Sys2Proof.Machine.execBit7B s
  | .bit7C => Sys2Proof.Machine.execBit7C s
  | .bit7D => Sys2Proof.Machine.execBit7D s
  | .bit7E => Sys2Proof.Machine.execBit7E s
  | .bit7H => Sys2Proof.Machine.execBit7H s
  | .bit7L => Sys2Proof.Machine.execBit7L s
  | .bit7MemHl => Sys2Proof.Machine.execBit7MemHl s
  | .bit7A => Sys2Proof.Machine.execBit7A s
  | .res0B => Sys2Proof.Machine.execRes0B s
  | .res0C => Sys2Proof.Machine.execRes0C s
  | .res0D => Sys2Proof.Machine.execRes0D s
  | .res0E => Sys2Proof.Machine.execRes0E s
  | .res0H => Sys2Proof.Machine.execRes0H s
  | .res0L => Sys2Proof.Machine.execRes0L s
  | .res0MemHl => Sys2Proof.Machine.execRes0MemHl s
  | .res0A => Sys2Proof.Machine.execRes0A s
  | .res1B => Sys2Proof.Machine.execRes1B s
  | .res1C => Sys2Proof.Machine.execRes1C s
  | .res1D => Sys2Proof.Machine.execRes1D s
  | .res1E => Sys2Proof.Machine.execRes1E s
  | .res1H => Sys2Proof.Machine.execRes1H s
  | .res1L => Sys2Proof.Machine.execRes1L s
  | .res1MemHl => Sys2Proof.Machine.execRes1MemHl s
  | .res1A => Sys2Proof.Machine.execRes1A s
  | .res2B => Sys2Proof.Machine.execRes2B s
  | .res2C => Sys2Proof.Machine.execRes2C s
  | .res2D => Sys2Proof.Machine.execRes2D s
  | .res2E => Sys2Proof.Machine.execRes2E s
  | .res2H => Sys2Proof.Machine.execRes2H s
  | .res2L => Sys2Proof.Machine.execRes2L s
  | .res2MemHl => Sys2Proof.Machine.execRes2MemHl s
  | .res2A => Sys2Proof.Machine.execRes2A s
  | .res3B => Sys2Proof.Machine.execRes3B s
  | .res3C => Sys2Proof.Machine.execRes3C s
  | .res3D => Sys2Proof.Machine.execRes3D s
  | .res3E => Sys2Proof.Machine.execRes3E s
  | .res3H => Sys2Proof.Machine.execRes3H s
  | .res3L => Sys2Proof.Machine.execRes3L s
  | .res3MemHl => Sys2Proof.Machine.execRes3MemHl s
  | .res3A => Sys2Proof.Machine.execRes3A s
  | .res4B => Sys2Proof.Machine.execRes4B s
  | .res4C => Sys2Proof.Machine.execRes4C s
  | .res4D => Sys2Proof.Machine.execRes4D s
  | .res4E => Sys2Proof.Machine.execRes4E s
  | .res4H => Sys2Proof.Machine.execRes4H s
  | .res4L => Sys2Proof.Machine.execRes4L s
  | .res4MemHl => Sys2Proof.Machine.execRes4MemHl s
  | .res4A => Sys2Proof.Machine.execRes4A s
  | .res5B => Sys2Proof.Machine.execRes5B s
  | .res5C => Sys2Proof.Machine.execRes5C s
  | .res5D => Sys2Proof.Machine.execRes5D s
  | .res5E => Sys2Proof.Machine.execRes5E s
  | .res5H => Sys2Proof.Machine.execRes5H s
  | .res5L => Sys2Proof.Machine.execRes5L s
  | .res5MemHl => Sys2Proof.Machine.execRes5MemHl s
  | .res5A => Sys2Proof.Machine.execRes5A s
  | .res6B => Sys2Proof.Machine.execRes6B s
  | .res6C => Sys2Proof.Machine.execRes6C s
  | .res6D => Sys2Proof.Machine.execRes6D s
  | .res6E => Sys2Proof.Machine.execRes6E s
  | .res6H => Sys2Proof.Machine.execRes6H s
  | .res6L => Sys2Proof.Machine.execRes6L s
  | .res6MemHl => Sys2Proof.Machine.execRes6MemHl s
  | .res6A => Sys2Proof.Machine.execRes6A s
  | .res7B => Sys2Proof.Machine.execRes7B s
  | .res7C => Sys2Proof.Machine.execRes7C s
  | .res7D => Sys2Proof.Machine.execRes7D s
  | .res7E => Sys2Proof.Machine.execRes7E s
  | .res7H => Sys2Proof.Machine.execRes7H s
  | .res7L => Sys2Proof.Machine.execRes7L s
  | .res7MemHl => Sys2Proof.Machine.execRes7MemHl s
  | .res7A => Sys2Proof.Machine.execRes7A s
  | .set0B => Sys2Proof.Machine.execSet0B s
  | .set0C => Sys2Proof.Machine.execSet0C s
  | .set0D => Sys2Proof.Machine.execSet0D s
  | .set0E => Sys2Proof.Machine.execSet0E s
  | .set0H => Sys2Proof.Machine.execSet0H s
  | .set0L => Sys2Proof.Machine.execSet0L s
  | .set0MemHl => Sys2Proof.Machine.execSet0MemHl s
  | .set0A => Sys2Proof.Machine.execSet0A s
  | .set1B => Sys2Proof.Machine.execSet1B s
  | .set1C => Sys2Proof.Machine.execSet1C s
  | .set1D => Sys2Proof.Machine.execSet1D s
  | .set1E => Sys2Proof.Machine.execSet1E s
  | .set1H => Sys2Proof.Machine.execSet1H s
  | .set1L => Sys2Proof.Machine.execSet1L s
  | .set1MemHl => Sys2Proof.Machine.execSet1MemHl s
  | .set1A => Sys2Proof.Machine.execSet1A s
  | .set2B => Sys2Proof.Machine.execSet2B s
  | .set2C => Sys2Proof.Machine.execSet2C s
  | .set2D => Sys2Proof.Machine.execSet2D s
  | .set2E => Sys2Proof.Machine.execSet2E s
  | .set2H => Sys2Proof.Machine.execSet2H s
  | .set2L => Sys2Proof.Machine.execSet2L s
  | .set2MemHl => Sys2Proof.Machine.execSet2MemHl s
  | .set2A => Sys2Proof.Machine.execSet2A s
  | .set3B => Sys2Proof.Machine.execSet3B s
  | .set3C => Sys2Proof.Machine.execSet3C s
  | .set3D => Sys2Proof.Machine.execSet3D s
  | .set3E => Sys2Proof.Machine.execSet3E s
  | .set3H => Sys2Proof.Machine.execSet3H s
  | .set3L => Sys2Proof.Machine.execSet3L s
  | .set3MemHl => Sys2Proof.Machine.execSet3MemHl s
  | .set3A => Sys2Proof.Machine.execSet3A s
  | .set4B => Sys2Proof.Machine.execSet4B s
  | .set4C => Sys2Proof.Machine.execSet4C s
  | .set4D => Sys2Proof.Machine.execSet4D s
  | .set4E => Sys2Proof.Machine.execSet4E s
  | .set4H => Sys2Proof.Machine.execSet4H s
  | .set4L => Sys2Proof.Machine.execSet4L s
  | .set4MemHl => Sys2Proof.Machine.execSet4MemHl s
  | .set4A => Sys2Proof.Machine.execSet4A s
  | .set5B => Sys2Proof.Machine.execSet5B s
  | .set5C => Sys2Proof.Machine.execSet5C s
  | .set5D => Sys2Proof.Machine.execSet5D s
  | .set5E => Sys2Proof.Machine.execSet5E s
  | .set5H => Sys2Proof.Machine.execSet5H s
  | .set5L => Sys2Proof.Machine.execSet5L s
  | .set5MemHl => Sys2Proof.Machine.execSet5MemHl s
  | .set5A => Sys2Proof.Machine.execSet5A s
  | .set6B => Sys2Proof.Machine.execSet6B s
  | .set6C => Sys2Proof.Machine.execSet6C s
  | .set6D => Sys2Proof.Machine.execSet6D s
  | .set6E => Sys2Proof.Machine.execSet6E s
  | .set6H => Sys2Proof.Machine.execSet6H s
  | .set6L => Sys2Proof.Machine.execSet6L s
  | .set6MemHl => Sys2Proof.Machine.execSet6MemHl s
  | .set6A => Sys2Proof.Machine.execSet6A s
  | .set7B => Sys2Proof.Machine.execSet7B s
  | .set7C => Sys2Proof.Machine.execSet7C s
  | .set7D => Sys2Proof.Machine.execSet7D s
  | .set7E => Sys2Proof.Machine.execSet7E s
  | .set7H => Sys2Proof.Machine.execSet7H s
  | .set7L => Sys2Proof.Machine.execSet7L s
  | .set7MemHl => Sys2Proof.Machine.execSet7MemHl s
  | .set7A => Sys2Proof.Machine.execSet7A s

end Sys2Proof.Machine
end

