-- ==== Sys2Proof/Machine/Fetch.lean ====
section
/-! DEFINITION. Fetching an instruction's bytes (30_encoding.md R90, R96, R105), and placing them for a test. -/
namespace Sys2Proof.Machine

/-- The opcode fetch (30_encoding.md R90; 10_state.md R34): PC advances, or the halt-bug latch is consumed and PC
stays. -/
def State.fetchOpcode (s : State) : Byte × State :=
  let r := s.memRead s.pc
  if s.haltbug then (r.1, r.2.setHaltbug false) else (r.1, r.2.setPc (r.2.pc + 1))

/-- How many bytes the instruction takes: by its first byte alone (30_encoding.md R105), and one for STOP under
`STOP_BEHAVIOUR = invalid` (44_interrupt_halt_misc.md R254; log 15). -/
def State.fetchLen (s : State) (op : Byte) : Nat :=
  if op = 0x10 ∧ s.params.stop = .invalid then 1 else instrLen op

/-- The bytes of one instruction (0 where it has none) and the state after they are fetched. -/
structure Fetched where
  op : Byte
  b1 : Byte
  b2 : Byte
  bytes : List Byte
  after : State

/-- Fetch one whole instruction: the opcode byte, then `Fetch8()` for each byte after it (30_encoding.md R90, R96,
R97), in ascending address order (20_memory.md R80). -/
def State.fetch (s : State) : Fetched :=
  let r0 := s.fetchOpcode
  match s.fetchLen r0.1 with
  | 1 => { op := r0.1, b1 := 0, b2 := 0, bytes := [r0.1], after := r0.2 }
  | 2 =>
    let r1 := r0.2.fetch8
    { op := r0.1, b1 := r1.1, b2 := 0, bytes := [r0.1, r1.1], after := r1.2 }
  | _ =>
    let r1 := r0.2.fetch8
    let r2 := r1.2.fetch8
    { op := r0.1, b1 := r1.1, b2 := r2.1, bytes := [r0.1, r1.1, r2.1], after := r2.2 }

/-- The instruction fetched (30_encoding.md R90). -/
def Fetched.instr (x : Fetched) : Instr := decodeInstr x.op x.b1 x.b2

/-- `s` with bytes placed in memory from `addr` on, by the environment, not by an access of the core. -/
def State.placeBytes (s : State) (addr : Word) : List Byte → State
  | [] => s
  | v :: vs => (s.setBusState (busPut s.busState addr v)).placeBytes (addr + 1) vs

end Sys2Proof.Machine
end

