-- ==== Sys2Proof/Machine/Cycle.lean ====
section
/-! DEFINITION. The instruction step `Step()` (60_exceptions.md R352) and what follows it in a machine cycle
(R353). -/
namespace Sys2Proof.Machine

/-- A halt tick (60_exceptions.md R352): "no bus access, no state change at all"; only the outputs are new. -/
def State.haltTick (s : State) : State :=
  s.setOut { Output.start s.pc with cycles := s.params.haltTick }

/-- The start of a fetching step (60_exceptions.md R352): `iaddr <- PC`, `ADDCYC <- 0`, and empty outputs. -/
def State.beginStep (s : State) : State := (s.setAddcyc 0).setOut (Output.start s.pc)

/-- The trace entry of a fetching step (60_exceptions.md R380). -/
def State.emitTrace (s : State) (t : TraceEntry) : State := s.setOut { s.out with trace := some t }

/-- The end of a fetching step (60_exceptions.md R352): the total is base plus ADDCYC, and ADDCYC is cleared. -/
def State.endStep (s : State) (base : Nat) : State :=
  (s.setOut { s.out with cycles := base + s.addcyc }).setAddcyc 0

/-- The state in which a fetching step executes its instruction: the bytes fetched, PC past them, the trace
written (60_exceptions.md R352). -/
def State.atExec (s : State) : State :=
  let x := s.beginStep.fetch
  x.after.emitTrace { addr := s.pc, bytes := x.bytes, instr := x.instr }

/-- `Step()` (60_exceptions.md R352). -/
def instrStep (s : State) : StepResult :=
  if s.halted then .next s.haltTick
  else
    let x := s.beginStep.fetch
    match exec x.instr s.atExec with
    | .next t => .next (t.endStep (baseCycles s.params.cyc x.op x.b1))
    | .fault e => .fault e
    | .refused r => .refused r

/-- What follows the step in a machine cycle (60_exceptions.md R353): `EnvAdvance`, the interrupt check, and
`EnvAdvance` again for a dispatch's own cycles. -/
def State.afterStep (s : State) : State :=
  let r := s.envAdvance.interruptCheck
  let s1 := r.2.setOut { r.2.out with dispatchCycles := r.1 }
  if r.1 > 0 then s1.envAdvance else s1

/-- `MachineCycle()` (60_exceptions.md R353; log 7). -/
def machineCycle (s : State) : StepResult :=
  match instrStep s with
  | .next t => .next t.afterStep
  | .fault e => .fault e
  | .refused r => .refused r

end Sys2Proof.Machine
end

