-- ==== Sys2Proof/Machine/Step.lean ====
section
/-! DEFINITION. One step of the model, and a state that runs a given instruction next. -/
namespace Sys2Proof.Machine

/-- One step of the model is one machine cycle (60_exceptions.md R353; log 7). -/
def step (s : State) : Host.Outcome State Fault Refusal := machineCycle s

/-- `s` with the instruction whose bits the opcode table numbers as `w` placed at PC, and able to fetch it: not
halted and no halt-bug latch. It stands for the load of a program from outside the machine (log 16, log 17). -/
def State.withFetchWord (s : State) (nbits w : Nat) : State :=
  ((s.setHalted false).setHaltbug false).placeBytes s.pc (tableBytes nbits w)

end Sys2Proof.Machine
end

