-- ==== Sys2Proof/Safety.lean ====
section
/-! DEFINITION. The terms in which claims speak of states and runs. -/
namespace Sys2Proof.Machine

/-- What every state between machine cycles is: memory in canonical form, F[3:0] = 0 (10_state.md R29), ADDCYC = 0
("It is zero between steps", R35). -/
def State.Inv (s : State) : Prop := Memory.wf s.busState.mem = true ∧ s.f &&& 0x0F = 0 ∧ s.addcyc = 0

/-- The parameters under which no instruction stops: "every operation is total over its input domain"
(60_exceptions.md R351, R352). They are those of `State.reset`. -/
def Params.runs (p : Params) : Prop := p.invalidOpcode = .nop ∧ p.stop ≠ .refuse

/-- END_OF_RUN, first choice (92_eei_decisions.md D33): PC is at a designated address between steps. -/
def State.endedAt (s : State) (addr : Word) : Prop := s.pc = addr

/-- END_OF_RUN, second choice (92_eei_decisions.md D33): halted with IME = 0 and a quiescent environment. DESIGN
CHOICE, unsafe (log 19): D33 does not ask for `HALT_WAKE_WITHOUT_IME = false`, the model does, since with `true` (D13)
such a core may still wake; and a quiescent environment is one whose list has ended (log 8). -/
def State.hung (s : State) : Prop :=
  s.halted = true ∧ s.ime = false ∧ s.env = [] ∧ s.params.haltWakeWithoutIme = false

/-- The bus after the recorded accesses, in order: reads change nothing (20_memory.md R61), a write is what the bus
does with it (R62, R63). -/
def replayBus : List BusEvent → Bus → Bus
  | [], b => b
  | .read _ _ :: es, b => replayBus es b
  | .write addr v :: es, b => replayBus es (busWrite b addr v)

/-- The change of bus-owned state that an environment event is; none for an event that is no such change. -/
def EnvEvent.busPart : EnvEvent → Option BusChange
  | .bus c => some c
  | .haltbugSet => none
  | .reset => none

/-- The bus is plain memory: what is written is stored, and nothing else happens (log 1). `State.reset` has such a
bus. -/
def plainBus (s : State) : Prop := s.busState.rules = []

/-- Everything but the outputs. -/
def State.sameButOut (s t : State) : Prop := t = s.setOut t.out

/-- Every byte of memory outside the addresses in `stored` reads as before. -/
def keepsMemoryBut (stored : List Word) (s t : State) : Prop :=
  ∀ addr : Word, addr ∉ stored → t.peek addr = s.peek addr

/-- The bus is as before, and so every byte of memory reads as before. -/
def keepsBus (s t : State) : Prop := t.busState = s.busState ∧ ∀ addr : Word, t.peek addr = s.peek addr

/-- Every 8-bit register (F aside) outside `written` holds what it held; `memHl` names none. -/
def keepsRegsBut (written : List R8) (s t : State) : Prop :=
  (.a ∉ written → t.a = s.a) ∧ (.b ∉ written → t.b = s.b) ∧ (.c ∉ written → t.c = s.c) ∧
  (.d ∉ written → t.d = s.d) ∧ (.e ∉ written → t.e = s.e) ∧ (.h ∉ written → t.h = s.h) ∧
  (.l ∉ written → t.l = s.l)

/-- IME, HALTED, HALTBUG, the parameters, the environment and the free-value counter are as before. -/
def keepsControl (s t : State) : Prop :=
  t.ime = s.ime ∧ t.halted = s.halted ∧ t.haltbug = s.haltbug ∧ t.params = s.params ∧ t.env = s.env ∧
  t.freeCount = s.freeCount

/-- `keepsControl`, and SP, PC and ADDCYC are as before. -/
def keepsFlow (s t : State) : Prop :=
  t.sp = s.sp ∧ t.pc = s.pc ∧ t.addcyc = s.addcyc ∧ keepsControl s t

/-- Every 8-bit register, F, and the bus with every byte of memory hold what they held. -/
def keepsData (s t : State) : Prop := keepsRegsBut [] s t ∧ t.f = s.f ∧ keepsBus s t

/-! ### What an instruction does -/

/-- Executing `i` in `s` answers a next state, and `post` holds of it. -/
def completes (i : Instr) (s : State) (post : State → Prop) : Prop := ∃ t, exec i s = .next t ∧ post t

/-- The bus after these bytes are written to it, in order. -/
def busWrites (b : Bus) : List (Word × Byte) → Bus
  | [] => b
  | x :: xs => busWrites (busWrite b x.1 x.2) xs

/-- Executing `i` in `s` answers a next state in which the bus is as these writes leave it. Where it is plain memory,
the listed bytes (at distinct addresses) are stored and every other byte of memory reads as before. -/
def storesExactly (i : Instr) (s : State) (bytes : List (Word × Byte)) : Prop :=
  completes i s fun t =>
    t.busState = busWrites s.busState bytes ∧
    (plainBus s → keepsMemoryBut (bytes.map Prod.fst) s t ∧ ∀ x ∈ bytes, t.peek x.1 = x.2)

/-- Executing `i` over and over, `n` times, without fetching. -/
def execTimes (i : Instr) : Nat → State → StepResult
  | 0, s => .next s
  | n + 1, s =>
    match exec i s with
    | .next t => execTimes i n t
    | .fault e => .fault e
    | .refused r => .refused r

/-- The flags hold these values. -/
def flagsAre (t : State) (z n h c : Bool) : Prop := t.flagZ = z ∧ t.flagN = n ∧ t.flagH = h ∧ t.flagC = c

/-- The bus accesses recorded since `s` are `acc`, in order. -/
def makesAccesses (s t : State) (acc : List BusEvent) : Prop := t.out.bus = s.out.bus ++ acc

/-- The byte a register code's operand holds (10_state.md R24). -/
def r8Value (s : State) : R8 → Byte
  | .b => s.b | .c => s.c | .d => s.d | .e => s.e | .h => s.h | .l => s.l
  | .memHl => s.peek s.hl
  | .a => s.a

/-- The bus reads of reading the operand (10_state.md R24): one at HL for code 6. -/
def r8Reads (s : State) (r : R8) : List BusEvent := if r = .memHl then [.read s.hl (s.peek s.hl)] else []

/-- The bus writes of writing `v` to the operand (10_state.md R24): one at HL for code 6. -/
def r8Writes (s : State) (r : R8) (v : Byte) : List BusEvent := if r = .memHl then [.write s.hl v] else []

/-- The register of a register code holds `v`; nothing is asked for code 6, which names no register. -/
def regHolds (t : State) (v : Byte) : R8 → Prop
  | .b => t.b = v | .c => t.c = v | .d => t.d = v | .e => t.e = v | .h => t.h = v | .l => t.l = v
  | .memHl => True
  | .a => t.a = v

/-- The 8-bit registers of a pair; SP has none. -/
def rpRegs : Rp → List R8
  | .bc => [.b, .c] | .de => [.d, .e] | .hl => [.h, .l] | .sp => []

/-- The 8-bit registers of a pair, F aside. -/
def rp2Regs : Rp2 → List R8
  | .bc => [.b, .c] | .de => [.d, .e] | .hl => [.h, .l] | .af => [.a]

/-- Whether a condition holds (43_control_flow.md R220). -/
def condHolds (s : State) : Cond → Bool
  | .nz => !s.flagZ
  | .z => s.flagZ
  | .nc => !s.flagC
  | .c => s.flagC

/-- Bit `j` of the result of a rotate kind on `v` with prior Carry `carry`, bit by bit (42_rotate_shift_bit.md
R190 to R202). -/
def rotatedBit (k : Rot) (v : Byte) (carry : Bool) (j : Nat) : Bool :=
  match k with
  | .rlc => v.getLsbD ((j + 7) % 8)
  | .rrc => v.getLsbD ((j + 1) % 8)
  | .rl => if j = 0 then carry else v.getLsbD (j - 1)
  | .rr => if j = 7 then carry else v.getLsbD (j + 1)
  | .sla => if j = 0 then false else v.getLsbD (j - 1)
  | .sra => if j = 7 then v.getLsbD 7 else v.getLsbD (j + 1)
  | .swap => v.getLsbD ((j + 4) % 8)
  | .srl => if j = 7 then false else v.getLsbD (j + 1)

/-- Whether the recorded accesses fit the bus they started from: each read returned the byte that the bus presented
at that moment (20_memory.md R61, R74). -/
def busAgrees : List BusEvent → Bus → Prop
  | [], _ => True
  | .read addr v :: es, b => v = busRead b addr ∧ busAgrees es b
  | .write addr v :: es, b => busAgrees es (busWrite b addr v)

/-! ### Codes and opcodes -/

/-- The value of a register code (10_state.md R24). -/
def codeR8 : R8 → Nat
  | .b => 0 | .c => 1 | .d => 2 | .e => 3 | .h => 4 | .l => 5 | .memHl => 6 | .a => 7

/-- The value of a pair code (10_state.md R27). -/
def codeRp : Rp → Nat
  | .bc => 0 | .de => 1 | .hl => 2 | .sp => 3

/-- The value of a pair code of PUSH and POP (10_state.md R27). -/
def codeRp2 : Rp2 → Nat
  | .bc => 0 | .de => 1 | .hl => 2 | .af => 3

/-- The value of a condition code (43_control_flow.md R220). -/
def codeCond : Cond → Nat
  | .nz => 0 | .z => 1 | .nc => 2 | .c => 3

/-- An opcode byte from its value. -/
def opByte (n : Nat) : Byte := BitVec.ofNat 8 n

/-- The first bytes of the instructions that 10_state.md R31 lists as writing flags; 0xCB is decided by its second
byte. -/
def flagOpcode (op : Nat) : Bool :=
  (decide (op < 0x40) && (op % 8 == 4 || op % 8 == 5 || op % 8 == 7 || op % 16 == 9)) ||
  (decide (0x80 ≤ op) && decide (op < 0xC0)) ||
  (decide (0xC0 ≤ op) && op % 8 == 6) ||
  op == 0xE8 || op == 0xF8 || op == 0xF1

/-- Whether 10_state.md R31 lists the instruction as writing some flag; the prefix entry by what it may run. -/
def mayWriteFlags (i : Instr) : Bool :=
  match encode i with
  | [] => false
  | op :: rest => if op = 0xCB then rest.all (fun op2 => decide (op2.toNat < 0x80)) else flagOpcode op.toNat

end Sys2Proof.Machine
end

