-- ==== Sys2Proof/Certificates/Slice0/Obligations.lean ====
section
/-! DEFINITION. The statements about the model. Bus accesses are stated as the record of them in the outputs
(20_memory.md R61; log 10). What a write does is the bus's business (R62, R63), and the bus is a parameter, so the
statements of the storing forms give the writes on the bus, and `StoredBytesAndNoOthers` gives the bus they leave:
for every bus, and byte by byte for one that is plain memory, as that of `State.reset` is (log 1, DESIGN CHOICE). -/

section
open Sys2Proof Sys2Proof.Machine

/-! ### Encoding -/

/-- Instructions of every family, written out byte by byte from 30_encoding.md R100, R101 and the examples of the
instruction rules. -/
def Obligations.KnownWordsDecode : Prop :=
  decode [0x80] = .ok .addAB [] ∧
  decode [0xDE, 0x3A] = .ok (.sbcAD8 0x3A) [] ∧
  decode [0x34] = .ok .incMemHl [] ∧
  decode [0x27] = .ok .daa [] ∧
  decode [0x39] = .ok .addHlSp [] ∧
  decode [0xE8, 0x02] = .ok (.addSpE8 0x02) [] ∧
  decode [0x1F] = .ok .rra [] ∧
  decode [0xCB, 0x37] = .ok .swapA [] ∧
  decode [0xCB, 0x7F] = .ok .bit7A [] ∧
  decode [0xCB, 0xCB] = .ok .set1E [] ∧
  decode [0xC3, 0x50, 0x01] = .ok (.jpA16 0x0150) [] ∧
  decode [0x20, 0xFA] = .ok (.jrNzE8 0xFA) [] ∧
  decode [0xEF] = .ok .rst28H [] ∧
  decode [0xD9] = .ok .reti [] ∧
  decode [0x76] = .ok .halt [] ∧
  decode [0x10, 0x00] = .ok (.stop 0x00) [] ∧
  decode [0xDD, 0x21, 0x34, 0x12] = .ok .invalidDD [0x21, 0x34, 0x12] ∧
  decode [0x36, 0xFF] = .ok (.ldMemHlD8 0xFF) [] ∧
  decode [0xE0, 0x0F] = .ok (.ldhMemA8A 0x0F) [] ∧
  decode [0x01, 0x34, 0x12] = .ok (.ldBcD16 0x1234) [] ∧
  decode [0xF5] = .ok .pushAf []

/-- For every well-formed instruction, with every operand, decoding its encoding gives it back and leaves the bytes
that follow. The one term that is not well-formed, the prefix entry, is log 14. -/
def Obligations.DecodeOfEncodeIsIdentity : Prop :=
  ∀ (i : Instr) (rest : List Byte), i.wf = true → decode (encode i ++ rest) = .ok i rest

/-- Encoding the instruction decoded from three bytes gives those of them that it takes: every word has one meaning
(30_encoding.md R92, R104, R105). -/
def Obligations.EncodeOfDecodeIsIdentity : Prop :=
  ∀ op b1 b2 : Byte,
    encode (decodeInstr op b1 b2) = [op, b1, b2].take (instrLen op) ∧ 1 ≤ instrLen op ∧ instrLen op ≤ 3

/-- Every byte value decodes, by its own length, to a complete instruction; a stream is refused only where it ends
too early (30_encoding.md R92, R105). -/
def Obligations.EveryByteDecodes : Prop :=
  ∀ (op : Byte) (rest : List Byte),
    (instrLen op ≤ rest.length + 1 →
      ∃ i, decode (op :: rest) = .ok i (rest.drop (instrLen op - 1)) ∧ i.wf = true) ∧
    (rest.length + 1 < instrLen op → decode (op :: rest) = .error (.truncated op))

/-! ### The step -/

/-- A step runs the instruction decoded at PC: not halted, without the halt-bug latch, and not at a STOP byte that
`STOP_BEHAVIOUR = invalid` makes one byte long, a step is `exec` of it in the state `atExec` (PC past its bytes, the
fetches recorded, nothing else of the machine changed), then `endStep` (the cycle count of 60_exceptions.md R352,
ADDCYC cleared), then `afterStep` (the rest of the machine cycle, 60_exceptions.md R353; log 7). -/
def Obligations.StepRunsDecodedInstruction : Prop :=
  ∀ (s : State) (i : Instr) (rest : List Byte),
    s.halted = false → s.haltbug = false →
    ¬(s.peek s.pc = 0x10 ∧ s.params.stop = .invalid) →
    decode [s.peek s.pc, s.peek (s.pc + 1), s.peek (s.pc + 2)] = .ok i rest →
    step s =
      (match exec i s.atExec with
        | .next t => .next (t.endStep (baseCycles s.params.cyc (s.peek s.pc) (s.peek (s.pc + 1)))).afterStep
        | .fault e => .fault e
        | .refused r => .refused r) ∧
    s.atExec.pc = s.pc + BitVec.ofNat 16 (encode i).length ∧
    s.atExec.out.bus =
      (List.range (encode i).length).map
        (fun k => .read (s.pc + BitVec.ofNat 16 k) (s.peek (s.pc + BitVec.ofNat 16 k))) ∧
    s.atExec.out.iaddr = s.pc ∧
    s.atExec.out.trace = some { addr := s.pc, bytes := encode i, instr := i } ∧
    s.atExec.sp = s.sp ∧ s.atExec.addcyc = 0 ∧ keepsData s s.atExec ∧ keepsControl s s.atExec

/-- While HALTED is set, `Step()` answers at once with the halt tick: no bus access and no change of state
(60_exceptions.md R352; 10_state.md R33). -/
def Obligations.HaltTickChangesNothing : Prop :=
  ∀ s : State, s.halted = true →
    ∃ t, instrStep s = .next t ∧ s.sameButOut t ∧ t.out.bus = [] ∧ t.out.cycles = s.params.haltTick ∧
      t.out.trace = none ∧ t.out.invalid = none

/-- With the halt-bug latch set the opcode byte is read without PC advancing, the latch is cleared in the same step,
and the operand bytes are fetched as usual, the first of them from the opcode's own address (10_state.md R34,
60_exceptions.md R372). -/
def Obligations.HaltBugSuppressesOneIncrement : Prop :=
  ∀ s : State, s.halted = false → s.haltbug = true →
    ¬(s.peek s.pc = 0x10 ∧ s.params.stop = .invalid) →
    s.atExec.pc = s.pc + BitVec.ofNat 16 (instrLen (s.peek s.pc) - 1) ∧
    s.atExec.haltbug = false ∧ s.atExec.sp = s.sp ∧ keepsData s s.atExec ∧
    step s =
      (match exec (decodeInstr (s.peek s.pc) (s.peek s.pc) (s.peek (s.pc + 1))) s.atExec with
        | .next t => .next (t.endStep (baseCycles s.params.cyc (s.peek s.pc) (s.peek s.pc))).afterStep
        | .fault e => .fault e
        | .refused r => .refused r)

/-! ### Registers, flags and operand codes -/

/-- 10_state.md R22, R23: the four pairs, first-named register high, are views of the 8-bit registers, in both
directions; a write of AF drops the low four bits. -/
def Obligations.PairsAreViewsOfRegisters : Prop :=
  (∀ s : State,
    s.bc.toNat = s.b.toNat * 256 + s.c.toNat ∧ s.de.toNat = s.d.toNat * 256 + s.e.toNat ∧
    s.hl.toNat = s.h.toNat * 256 + s.l.toNat ∧ s.af.toNat = s.a.toNat * 256 + s.getF.toNat) ∧
  (∀ (s : State) (x y : Byte),
    ((s.setB x).setC y).bc = ((s.setC y).setB x).bc ∧ ((s.setB x).setC y).bc.toNat = x.toNat * 256 + y.toNat ∧
    ((s.setD x).setE y).de.toNat = x.toNat * 256 + y.toNat ∧
    ((s.setH x).setL y).hl.toNat = x.toNat * 256 + y.toNat) ∧
  (∀ (s : State) (w : Word),
    ((s.setBc w).b.toNat = w.toNat / 256 ∧ (s.setBc w).c.toNat = w.toNat % 256 ∧ (s.setBc w).bc = w ∧
      keepsRegsBut [.b, .c] s (s.setBc w) ∧ (s.setBc w).f = s.f) ∧
    ((s.setDe w).d.toNat = w.toNat / 256 ∧ (s.setDe w).e.toNat = w.toNat % 256 ∧ (s.setDe w).de = w ∧
      keepsRegsBut [.d, .e] s (s.setDe w) ∧ (s.setDe w).f = s.f) ∧
    ((s.setHl w).h.toNat = w.toNat / 256 ∧ (s.setHl w).l.toNat = w.toNat % 256 ∧ (s.setHl w).hl = w ∧
      keepsRegsBut [.h, .l] s (s.setHl w) ∧ (s.setHl w).f = s.f) ∧
    ((s.setAf w).a.toNat = w.toNat / 256 ∧ (s.setAf w).getF.toNat = w.toNat % 256 / 16 * 16 ∧
      keepsRegsBut [.a] s (s.setAf w)))

/-- 10_state.md R28, R29: the masks of the four flags, and `F <- v` stores `v & 0xF0`, so bits 3..0 always read 0 and
ignore writes. -/
def Obligations.FlagByteLayout : Prop :=
  (∀ s : State,
    (s.flagZ = true ↔ s.getF &&& 0x80 ≠ 0) ∧ (s.flagN = true ↔ s.getF &&& 0x40 ≠ 0) ∧
    (s.flagH = true ↔ s.getF &&& 0x20 ≠ 0) ∧ (s.flagC = true ↔ s.getF &&& 0x10 ≠ 0) ∧
    s.getF &&& 0x0F = 0 ∧ s.af &&& 0x000F = 0) ∧
  (∀ (s : State) (v : Byte), (s.setF v).f = v &&& 0xF0 ∧ (s.setF v).getF = v &&& 0xF0 ∧
    keepsRegsBut [] s (s.setF v)) ∧
  (∀ (s : State) (z n h c : Bool), flagsAre (s.withFlags z n h c) z n h c)

/-- 10_state.md R24, R27: the register codes, with code 6 one bus access at HL, `R8` and `W8` through them, and the two
pair codes, which differ in code 3, with what they read and write. -/
def Obligations.OperandCodesSelectRegisters : Prop :=
  (∀ c : Octal, codeR8 (R8.ofCode c) = c.toNat) ∧
  (∀ y : Octal, codeRp (Rp.ofY y) = y.toNat / 2 ∧ codeRp2 (Rp2.ofY y) = y.toNat / 2) ∧
  (∀ (s : State) (r : R8),
    (s.getR8 r).1 = r8Value s r ∧ makesAccesses s (s.getR8 r).2 (r8Reads s r) ∧ s.sameButOut (s.getR8 r).2) ∧
  (∀ (s : State) (r : R8) (v : Byte),
    regHolds (s.setR8 r v) v r ∧ makesAccesses s (s.setR8 r v) (r8Writes s r v) ∧
    keepsRegsBut [r] s (s.setR8 r v) ∧ (s.setR8 r v).f = s.f ∧ keepsFlow s (s.setR8 r v)) ∧
  (∀ s : State, s.getRp .bc = s.bc ∧ s.getRp .de = s.de ∧ s.getRp .hl = s.hl ∧ s.getRp .sp = s.sp ∧
    s.getRp2 .bc = s.bc ∧ s.getRp2 .de = s.de ∧ s.getRp2 .hl = s.hl ∧ s.getRp2 .af = s.af) ∧
  (∀ (s : State) (p : Rp) (w : Word), (s.setRp p w).getRp p = w) ∧
  (∀ (s : State) (p : Rp2) (w : Word), (s.setRp2 p w).getRp2 p = if p = .af then w &&& 0xFFF0 else w)

/-! ### Memory and the stack -/

/-- The two operations of the bus (20_memory.md R61 to R63, R66), for every bus the parameter can be (log 9). A read
returns what the bus presents and changes nothing. A write changes no state of the core; it is stored where no rule of
the bus covers it, and where one does, the bits of `stores` are stored, and the rule's change is made, before the next
access: the second byte of a 16-bit write meets the bus that the first has left. On plain memory what is written reads
back and no other byte changes. -/
def Obligations.MemoryReadsBackWrites : Prop :=
  (∀ (s : State) (addr : Word),
    (s.memRead addr).1 = s.peek addr ∧ makesAccesses s (s.memRead addr).2 [.read addr (s.peek addr)] ∧
    s.sameButOut (s.memRead addr).2) ∧
  (∀ (s : State) (addr : Word) (v : Byte),
    makesAccesses s (s.memWrite addr v) [.write addr v] ∧ keepsRegsBut [] s (s.memWrite addr v) ∧
    (s.memWrite addr v).f = s.f ∧ keepsFlow s (s.memWrite addr v) ∧
    (s.memWrite addr v).busState.rules = s.busState.rules ∧
    (Memory.wf s.busState.mem = true → Memory.wf (s.memWrite addr v).busState.mem = true)) ∧
  (∀ (s : State) (addr : Word) (v : Byte), ruleFor s.busState.mode addr v s.busState.rules = none →
    (s.memWrite addr v).peek addr = v ∧ keepsMemoryBut [addr] s (s.memWrite addr v) ∧
    (s.memWrite addr v).busState.mode = s.busState.mode) ∧
  (∀ (s : State) (addr : Word) (v : Byte) (r : BusRule),
    ruleFor s.busState.mode addr v s.busState.rules = some r →
    (r.changes = [] →
      (∀ j < 8, ((s.memWrite addr v).peek addr).getLsbD j =
        if r.stores.getLsbD j then v.getLsbD j else (s.peek addr).getLsbD j) ∧
      keepsMemoryBut [addr] s (s.memWrite addr v) ∧ (s.memWrite addr v).busState.mode = s.busState.mode) ∧
    (∀ (a : Word) (mask x : Byte), r.changes = [.put a mask x] → a ≠ addr →
      (∀ j < 8, ((s.memWrite addr v).peek addr).getLsbD j =
        if r.stores.getLsbD j then v.getLsbD j else (s.peek addr).getLsbD j) ∧
      (∀ j < 8, ((s.memWrite addr v).peek a).getLsbD j =
        if mask.getLsbD j then x.getLsbD j else (s.peek a).getLsbD j) ∧
      keepsMemoryBut [addr, a] s (s.memWrite addr v)) ∧
    (∀ n : Nat, r.changes = [.enter n] → (s.memWrite addr v).busState.mode = n)) ∧
  (∀ (s : State) (addr w : Word),
    makesAccesses s (s.memWrite16 addr w) [.write addr (lo8 w), .write (addr + 1) (hi8 w)] ∧
    (s.memWrite16 addr w).busState = busWrite (busWrite s.busState addr (lo8 w)) (addr + 1) (hi8 w) ∧
    (plainBus s →
      (s.memWrite16 addr w).peek addr = lo8 w ∧ (s.memWrite16 addr w).peek (addr + 1) = hi8 w ∧
      keepsMemoryBut [addr, addr + 1] s (s.memWrite16 addr w)))

/-- 20_memory.md R68, R69: `Push16` writes the high byte at SP - 1 and then the low byte at SP - 2, `Pop16` reads the
low byte at SP and then the high byte at SP + 1, all modulo 2^16. -/
def Obligations.StackPrimitives : Prop :=
  (∀ (s : State) (w : Word),
    (s.push16 w).sp = s.sp - 2 ∧
    makesAccesses s (s.push16 w) [.write (s.sp - 1) (hi8 w), .write (s.sp - 2) (lo8 w)] ∧
    keepsRegsBut [] s (s.push16 w) ∧ (s.push16 w).f = s.f ∧ (s.push16 w).pc = s.pc ∧
    (s.push16 w).addcyc = s.addcyc ∧ keepsControl s (s.push16 w)) ∧
  (∀ s : State,
    s.pop16.1.toNat = (s.peek (s.sp + 1)).toNat * 256 + (s.peek s.sp).toNat ∧
    s.pop16.2.sp = s.sp + 2 ∧
    makesAccesses s s.pop16.2 [.read s.sp (s.peek s.sp), .read (s.sp + 1) (s.peek (s.sp + 1))] ∧
    keepsData s s.pop16.2 ∧ s.pop16.2.pc = s.pc ∧ s.pop16.2.addcyc = s.addcyc ∧ keepsControl s s.pop16.2)

/-- The stack law, which 46_load16_stack.md R317 derives, where the bus is plain memory (log 1): PUSH of a pair and
POP of the same pair restores it, PUSH of one pair and POP of another moves its value (AF drops the low four bits,
10_state.md R29), and SP is as before. -/
def Obligations.PushThenPopMovesPair : Prop :=
  ∀ (s : State) (p q : Rp2), plainBus s →
    completes (rowPush p) s fun t =>
      completes (rowPop q) t fun u =>
        (p = q → u.getRp2 q = s.getRp2 p) ∧
        u.getRp2 q = (if q = .af then s.getRp2 p &&& 0xFFF0 else s.getRp2 p) ∧ u.sp = s.sp ∧
        keepsMemoryBut [s.sp - 1, s.sp - 2] s u

/-! ### Reset -/

/-- 70_reset_and_hazards.md R390, 10_state.md R42: the values the spec gives after reset, for the event in any state;
it touches nothing on the bus, and the next fetch reads at RESET_PC. The state the model starts in has them too. What
the spec leaves unspecified is not constrained here. -/
def Obligations.ResetLeavesSpecifiedValues : Prop :=
  (∀ s : State,
    s.resetEvent.pc = 0x0000 ∧ s.resetEvent.ime = false ∧ s.resetEvent.halted = false ∧
    s.resetEvent.haltbug = false ∧ s.resetEvent.addcyc = 0 ∧ s.resetEvent.f &&& 0x0F = 0 ∧
    keepsBus s s.resetEvent ∧ makesAccesses s s.resetEvent [] ∧
    s.resetEvent.fetch.op = s.peek 0x0000) ∧
  (State.reset.pc = 0x0000 ∧ State.reset.ime = false ∧ State.reset.halted = false ∧
    State.reset.haltbug = false ∧ State.reset.addcyc = 0 ∧ State.reset.f &&& 0x0F = 0)

/-! ### 8-bit arithmetic and logic -/

/-- 40_alu8.md R134 to R137 with the addition of R131: ADD and ADC on every operand. H is the carry out of bit 3 and
also the XOR form. -/
def Obligations.AddAndAdcSetAccumulator : Prop :=
  (∀ (r : R8), encode (rowAlu .add r) = [opByte (0x80 + codeR8 r)] ∧
    encode (rowAlu .adc r) = [opByte (0x88 + codeR8 r)]) ∧
  (∀ v : Byte, encode (rowAluImm .add v) = [0xC6, v] ∧ encode (rowAluImm .adc v) = [0xCE, v]) ∧
  (∀ (s : State) (i : Instr) (v : Byte) (cin : Bool) (acc : List BusEvent),
    ((∃ r, i = rowAlu .add r ∧ v = r8Value s r ∧ cin = false ∧ acc = r8Reads s r) ∨
     (i = rowAluImm .add v ∧ cin = false ∧ acc = []) ∨
     (∃ r, i = rowAlu .adc r ∧ v = r8Value s r ∧ cin = s.flagC ∧ acc = r8Reads s r) ∨
     (i = rowAluImm .adc v ∧ cin = s.flagC ∧ acc = [])) →
    completes i s fun t =>
      t.a = BitVec.ofNat 8 (s.a.toNat + v.toNat + cin.toNat) ∧
      flagsAre t (decide (t.a = 0)) false
        (decide (s.a.toNat % 16 + v.toNat % 16 + cin.toNat > 15))
        (decide (s.a.toNat + v.toNat + cin.toNat > 255)) ∧
      t.flagH = decide ((s.a ^^^ v ^^^ t.a) &&& 0x10 ≠ 0) ∧
      makesAccesses s t acc ∧ keepsRegsBut [.a] s t ∧ keepsBus s t ∧ keepsFlow s t)

/-- 40_alu8.md R138 to R141, R148, R149 with the subtraction of R132: SUB, SBC and CP on every operand. C is the
borrow, H the borrow out of the low nibble and also the XOR form; CP leaves A. -/
def Obligations.SubSbcAndCpSubtract : Prop :=
  (∀ (r : R8), encode (rowAlu .sub r) = [opByte (0x90 + codeR8 r)] ∧
    encode (rowAlu .sbc r) = [opByte (0x98 + codeR8 r)] ∧ encode (rowAlu .cp r) = [opByte (0xB8 + codeR8 r)]) ∧
  (∀ v : Byte, encode (rowAluImm .sub v) = [0xD6, v] ∧ encode (rowAluImm .sbc v) = [0xDE, v] ∧
    encode (rowAluImm .cp v) = [0xFE, v]) ∧
  (∀ (s : State) (op : Alu) (i : Instr) (v : Byte) (cin : Bool) (acc : List BusEvent),
    (op = .sub ∧ cin = false ∨ op = .sbc ∧ cin = s.flagC ∨ op = .cp ∧ cin = false) →
    ((∃ r, i = rowAlu op r ∧ v = r8Value s r ∧ acc = r8Reads s r) ∨ (i = rowAluImm op v ∧ acc = [])) →
    completes i s fun t =>
      let res : Byte := BitVec.ofInt 8 ((s.a.toNat : Int) - v.toNat - cin.toNat)
      t.a = (if op = .cp then s.a else res) ∧
      flagsAre t (decide (res = 0)) true
        (decide (s.a.toNat % 16 < v.toNat % 16 + cin.toNat))
        (decide (s.a.toNat < v.toNat + cin.toNat)) ∧
      t.flagH = decide ((s.a ^^^ v ^^^ res) &&& 0x10 ≠ 0) ∧
      makesAccesses s t acc ∧ keepsRegsBut [.a] s t ∧ keepsBus s t ∧ keepsFlow s t)

/-- 40_alu8.md R142 to R147: AND, XOR and OR on every operand; N and C cleared, H set by AND alone. -/
def Obligations.AndXorOrAreBitwise : Prop :=
  (∀ (r : R8), encode (rowAlu .and r) = [opByte (0xA0 + codeR8 r)] ∧
    encode (rowAlu .xor r) = [opByte (0xA8 + codeR8 r)] ∧ encode (rowAlu .or r) = [opByte (0xB0 + codeR8 r)]) ∧
  (∀ v : Byte, encode (rowAluImm .and v) = [0xE6, v] ∧ encode (rowAluImm .xor v) = [0xEE, v] ∧
    encode (rowAluImm .or v) = [0xF6, v]) ∧
  (∀ (s : State) (op : Alu) (i : Instr) (v res : Byte) (acc : List BusEvent),
    (op = .and ∧ res = s.a &&& v ∨ op = .xor ∧ res = s.a ^^^ v ∨ op = .or ∧ res = s.a ||| v) →
    ((∃ r, i = rowAlu op r ∧ v = r8Value s r ∧ acc = r8Reads s r) ∨ (i = rowAluImm op v ∧ acc = [])) →
    completes i s fun t =>
      t.a = res ∧ flagsAre t (decide (res = 0)) false (decide (op = .and)) false ∧
      makesAccesses s t acc ∧ keepsRegsBut [.a] s t ∧ keepsBus s t ∧ keepsFlow s t)

/-- 40_alu8.md R150, R151: INC and DEC of every operand; Carry is not affected. For (HL) one read and then one write
at HL. -/
def Obligations.IncAndDecKeepCarry : Prop :=
  (∀ (r : R8), encode (rowInc8 r) = [opByte (0x04 + 8 * codeR8 r)] ∧
    encode (rowDec8 r) = [opByte (0x05 + 8 * codeR8 r)]) ∧
  (∀ (s : State) (r : R8),
    completes (rowInc8 r) s fun t =>
      let res : Byte := BitVec.ofNat 8 ((r8Value s r).toNat + 1)
      regHolds t res r ∧
      flagsAre t (decide (res = 0)) false (decide ((r8Value s r).toNat % 16 = 15)) s.flagC ∧
      makesAccesses s t (r8Reads s r ++ r8Writes s r res) ∧ keepsRegsBut [r] s t ∧
      (r ≠ .memHl → keepsBus s t) ∧ keepsFlow s t) ∧
  (∀ (s : State) (r : R8),
    completes (rowDec8 r) s fun t =>
      let res : Byte := BitVec.ofNat 8 ((r8Value s r).toNat + 255)
      regHolds t res r ∧
      flagsAre t (decide (res = 0)) true (decide ((r8Value s r).toNat % 16 = 0)) s.flagC ∧
      makesAccesses s t (r8Reads s r ++ r8Writes s r res) ∧ keepsRegsBut [r] s t ∧
      (r ≠ .memHl → keepsBus s t) ∧ keepsFlow s t)

/-- 40_alu8.md R152: DAA. After an addition the corrections look at the nibble and the byte A had before; after a
subtraction only at the flags. N unchanged, H cleared. -/
def Obligations.DaaCorrectsToBcd : Prop :=
  encode .daa = [0x27] ∧
  ∀ s : State,
    completes .daa s fun t =>
      let low : Bool := s.flagH || (!s.flagN && decide (s.a.toNat % 16 > 9))
      let high : Bool := s.flagC || (!s.flagN && decide (s.a.toNat > 153))
      let corr : Nat := (if low then 6 else 0) + (if high then 96 else 0)
      t.a = (if s.flagN then BitVec.ofNat 8 (s.a.toNat + 256 - corr) else BitVec.ofNat 8 (s.a.toNat + corr)) ∧
      flagsAre t (decide (t.a = 0)) s.flagN false high ∧
      makesAccesses s t [] ∧ keepsRegsBut [.a] s t ∧ keepsBus s t ∧ keepsFlow s t

/-- 40_alu8.md R153 to R155: CPL complements A and sets N and H; SCF sets and CCF complements Carry, both clearing N
and H. -/
def Obligations.CplScfCcfSetFlags : Prop :=
  encode .cpl = [0x2F] ∧ encode .scf = [0x37] ∧ encode .ccf = [0x3F] ∧
  (∀ s : State,
    completes .cpl s fun t =>
      t.a.toNat = 255 - s.a.toNat ∧ flagsAre t s.flagZ true true s.flagC ∧
      makesAccesses s t [] ∧ keepsRegsBut [.a] s t ∧ keepsBus s t ∧ keepsFlow s t) ∧
  (∀ s : State,
    completes .scf s fun t =>
      flagsAre t s.flagZ false false true ∧
      makesAccesses s t [] ∧ keepsRegsBut [] s t ∧ keepsBus s t ∧ keepsFlow s t) ∧
  (∀ s : State,
    completes .ccf s fun t =>
      flagsAre t s.flagZ false false (!s.flagC) ∧
      makesAccesses s t [] ∧ keepsRegsBut [] s t ∧ keepsBus s t ∧ keepsFlow s t)

/-! ### 16-bit arithmetic -/

/-- 41_alu16.md R181 with R180: ADD HL,rr; H is the carry out of bit 11, C out of bit 15, Z unchanged. -/
def Obligations.AddHlSetsCarriesKeepsZero : Prop :=
  ∀ (s : State) (p : Rp),
    encode (rowAddHl p) = [opByte (0x09 + 16 * codeRp p)] ∧
    completes (rowAddHl p) s fun t =>
      t.hl = BitVec.ofNat 16 (s.hl.toNat + (s.getRp p).toNat) ∧
      flagsAre t s.flagZ false
        (decide (s.hl.toNat % 4096 + (s.getRp p).toNat % 4096 > 4095))
        (decide (s.hl.toNat + (s.getRp p).toNat > 65535)) ∧
      makesAccesses s t [] ∧ keepsRegsBut [.h, .l] s t ∧ keepsBus s t ∧ keepsFlow s t

/-- 41_alu16.md R182, R183: INC rr and DEC rr wrap modulo 2^16 and write no flag. -/
def Obligations.IncAndDecPairsWrap : Prop :=
  ∀ (s : State) (p : Rp),
    (encode (rowInc16 p) = [opByte (0x03 + 16 * codeRp p)] ∧
      encode (rowDec16 p) = [opByte (0x0B + 16 * codeRp p)]) ∧
    (completes (rowInc16 p) s fun t =>
      (t.getRp p).toNat = ((s.getRp p).toNat + 1) % 65536 ∧
      (p ≠ .sp → t.sp = s.sp) ∧ keepsRegsBut (rpRegs p) s t ∧ t.f = s.f ∧ keepsBus s t ∧
      t.pc = s.pc ∧ t.addcyc = s.addcyc ∧ keepsControl s t ∧ makesAccesses s t []) ∧
    (completes (rowDec16 p) s fun t =>
      (t.getRp p).toNat = ((s.getRp p).toNat + 65535) % 65536 ∧
      (p ≠ .sp → t.sp = s.sp) ∧ keepsRegsBut (rpRegs p) s t ∧ t.f = s.f ∧ keepsBus s t ∧
      t.pc = s.pc ∧ t.addcyc = s.addcyc ∧ keepsControl s t ∧ makesAccesses s t [])

/-- 41_alu16.md R184, 46_load16_stack.md R315: ADD SP,e8 and LD HL,SP+e8 add the signed offset; Z and N are cleared, H
and C are those of the unsigned addition of the low byte of SP and the offset byte. -/
def Obligations.SpOffsetUsesLowByteCarries : Prop :=
  ∀ (s : State) (e : Byte),
    (encode (.addSpE8 e) = [0xE8, e] ∧ encode (.ldHlSpE8 e) = [0xF8, e]) ∧
    (completes (.addSpE8 e) s fun t =>
      t.sp = BitVec.ofInt 16 (s.sp.toNat + e.toInt) ∧
      flagsAre t false false (decide (s.sp.toNat % 16 + e.toNat % 16 > 15))
        (decide (s.sp.toNat % 256 + e.toNat > 255)) ∧
      keepsRegsBut [] s t ∧ keepsBus s t ∧ t.pc = s.pc ∧ t.addcyc = s.addcyc ∧ keepsControl s t ∧
      makesAccesses s t []) ∧
    (completes (.ldHlSpE8 e) s fun t =>
      t.hl = BitVec.ofInt 16 (s.sp.toNat + e.toInt) ∧
      flagsAre t false false (decide (s.sp.toNat % 16 + e.toNat % 16 > 15))
        (decide (s.sp.toNat % 256 + e.toNat > 255)) ∧
      keepsRegsBut [.h, .l] s t ∧ keepsBus s t ∧ keepsFlow s t ∧ makesAccesses s t [])

/-! ### Rotates, shifts and bits -/

/-- 42_rotate_shift_bit.md R190 to R193: RLCA, RRCA, RLA and RRA move A by one place, Carry is the bit that fell off,
and Z, N and H are cleared. -/
def Obligations.AccumulatorRotatesClearZero : Prop :=
  encode .rlca = [0x07] ∧ encode .rrca = [0x0F] ∧ encode .rla = [0x17] ∧ encode .rra = [0x1F] ∧
  ∀ (s : State) (i : Instr) (k : Rot) (c : Bool),
    (i = .rlca ∧ k = .rlc ∧ c = s.a.getLsbD 7 ∨ i = .rrca ∧ k = .rrc ∧ c = s.a.getLsbD 0 ∨
     i = .rla ∧ k = .rl ∧ c = s.a.getLsbD 7 ∨ i = .rra ∧ k = .rr ∧ c = s.a.getLsbD 0) →
    completes i s fun t =>
      (∀ j < 8, t.a.getLsbD j = rotatedBit k s.a s.flagC j) ∧ flagsAre t false false false c ∧
      makesAccesses s t [] ∧ keepsRegsBut [.a] s t ∧ keepsBus s t ∧ keepsFlow s t

/-- 42_rotate_shift_bit.md R195 to R202: the rotates and shifts of the secondary table on every operand; Z is computed,
N and H cleared, Carry is the bit that fell off (0 for SWAP). For (HL) one read and then one write at HL. -/
def Obligations.SecondaryRotatesComputeZero : Prop :=
  ∀ (s : State) (k : Rot) (n : Nat) (c : Bool) (r : R8),
    (k = .rlc ∧ n = 0x00 ∧ c = (r8Value s r).getLsbD 7 ∨ k = .rrc ∧ n = 0x08 ∧ c = (r8Value s r).getLsbD 0 ∨
     k = .rl ∧ n = 0x10 ∧ c = (r8Value s r).getLsbD 7 ∨ k = .rr ∧ n = 0x18 ∧ c = (r8Value s r).getLsbD 0 ∨
     k = .sla ∧ n = 0x20 ∧ c = (r8Value s r).getLsbD 7 ∨ k = .sra ∧ n = 0x28 ∧ c = (r8Value s r).getLsbD 0 ∨
     k = .swap ∧ n = 0x30 ∧ c = false ∨ k = .srl ∧ n = 0x38 ∧ c = (r8Value s r).getLsbD 0) →
    encode (rowRot k r) = [0xCB, opByte (n + codeR8 r)] ∧
    completes (rowRot k r) s fun t =>
      ∃ res : Byte,
        (∀ j < 8, res.getLsbD j = rotatedBit k (r8Value s r) s.flagC j) ∧ regHolds t res r ∧
        flagsAre t (decide (res = 0)) false false c ∧
        makesAccesses s t (r8Reads s r ++ r8Writes s r res) ∧ keepsRegsBut [r] s t ∧
        (r ≠ .memHl → keepsBus s t) ∧ keepsFlow s t

/-- 42_rotate_shift_bit.md R203: BIT sets Z to the complement of the tested bit, clears N, sets H, leaves Carry, and
writes nothing back. -/
def Obligations.BitTestsWithoutWriting : Prop :=
  ∀ (s : State) (b : Octal) (r : R8),
    encode (rowBit b r) = [0xCB, opByte (0x40 + 8 * b.toNat + codeR8 r)] ∧
    completes (rowBit b r) s fun t =>
      flagsAre t (!(r8Value s r).getLsbD b.toNat) false true s.flagC ∧
      makesAccesses s t (r8Reads s r) ∧ keepsRegsBut [] s t ∧ keepsBus s t ∧ keepsFlow s t

/-- 42_rotate_shift_bit.md R204, R205: RES and SET change the one bit and no flag; (HL) is read and written back
whatever the bit was. -/
def Obligations.ResAndSetChangeOneBit : Prop :=
  ∀ (s : State) (b : Octal) (r : R8),
    (encode (rowRes b r) = [0xCB, opByte (0x80 + 8 * b.toNat + codeR8 r)] ∧
      encode (rowSet b r) = [0xCB, opByte (0xC0 + 8 * b.toNat + codeR8 r)]) ∧
    (completes (rowRes b r) s fun t =>
      ∃ res : Byte,
        (∀ j < 8, res.getLsbD j = if j = b.toNat then false else (r8Value s r).getLsbD j) ∧ regHolds t res r ∧
        makesAccesses s t (r8Reads s r ++ r8Writes s r res) ∧ keepsRegsBut [r] s t ∧ t.f = s.f ∧
        (r ≠ .memHl → keepsBus s t) ∧ keepsFlow s t) ∧
    (completes (rowSet b r) s fun t =>
      ∃ res : Byte,
        (∀ j < 8, res.getLsbD j = if j = b.toNat then true else (r8Value s r).getLsbD j) ∧ regHolds t res r ∧
        makesAccesses s t (r8Reads s r ++ r8Writes s r res) ∧ keepsRegsBut [r] s t ∧ t.f = s.f ∧
        (r ≠ .memHl → keepsBus s t) ∧ keepsFlow s t)

/-- The laws that 42_rotate_shift_bit.md R206 derives, on every operand ((HL) where the bus is plain memory, log 1):
eight RLC or RRC restore it, nine RL or RR restore it and Carry, two SWAP restore it; RES then BIT sets Z, SET then
BIT clears it, and none of BIT, RES and SET changes Carry. On A, eight RLCA or RRCA restore it, and nine RLA or RRA
restore it and Carry. -/
def Obligations.RotatesArePeriodic : Prop :=
  (∀ s : State,
    (∀ i ∈ [Instr.rlca, Instr.rrca], ∃ t, execTimes i 8 s = .next t ∧ t.a = s.a) ∧
    (∀ i ∈ [Instr.rla, Instr.rra], ∃ t, execTimes i 9 s = .next t ∧ t.a = s.a ∧ t.flagC = s.flagC)) ∧
  ∀ (s : State) (r : R8), (r = .memHl → plainBus s) →
    (∀ k ∈ [Rot.rlc, Rot.rrc], ∃ t, execTimes (rowRot k r) 8 s = .next t ∧ r8Value t r = r8Value s r) ∧
    (∀ k ∈ [Rot.rl, Rot.rr],
      ∃ t, execTimes (rowRot k r) 9 s = .next t ∧ r8Value t r = r8Value s r ∧ t.flagC = s.flagC) ∧
    (∃ t, execTimes (rowRot .swap r) 2 s = .next t ∧ r8Value t r = r8Value s r) ∧
    (∀ b : Octal,
      (completes (rowBit b r) s fun t => t.flagC = s.flagC) ∧
      (completes (rowRes b r) s fun t =>
        t.flagC = s.flagC ∧ completes (rowBit b r) t fun u => u.flagZ = true ∧ u.flagC = s.flagC) ∧
      (completes (rowSet b r) s fun t =>
        t.flagC = s.flagC ∧ completes (rowBit b r) t fun u => u.flagZ = false ∧ u.flagC = s.flagC))

/-- 30_encoding.md R99: the prefix entry fetches one more byte and is then the secondary instruction that byte
selects; it completes whatever the byte. -/
def Obligations.PrefixRunsSecondaryEntry : Prop :=
  ∀ (s : State) (b2 : Byte),
    exec .prefixCb s = exec (decodeInstr 0xCB (s.peek s.pc) b2) s.fetch8.2 ∧
    s.fetch8.2.pc = s.pc + 1 ∧ makesAccesses s s.fetch8.2 [.read s.pc (s.peek s.pc)] ∧
    completes .prefixCb s fun t => t.pc = s.pc + 1 ∧ t.sp = s.sp ∧ t.addcyc = s.addcyc ∧ keepsControl s t

/-! ### Control transfer -/

/-- 43_control_flow.md R221, R223, R224: JP a16, JP HL and JR e8, the last relative to the address after the
instruction, where PC stands. -/
def Obligations.UnconditionalJumpsSetPc : Prop :=
  (∀ (s : State) (w : Word),
    encode (.jpA16 w) = [0xC3, lo8 w, hi8 w] ∧
    completes (.jpA16 w) s fun t =>
      t.pc = w ∧ keepsData s t ∧ t.sp = s.sp ∧ t.addcyc = s.addcyc ∧ keepsControl s t ∧ makesAccesses s t []) ∧
  (∀ s : State,
    encode .jpHl = [0xE9] ∧
    completes .jpHl s fun t =>
      t.pc = s.hl ∧ keepsData s t ∧ t.sp = s.sp ∧ t.addcyc = s.addcyc ∧ keepsControl s t ∧
      makesAccesses s t []) ∧
  (∀ (s : State) (e : Byte),
    encode (.jrE8 e) = [0x18, e] ∧
    completes (.jrE8 e) s fun t =>
      t.pc = BitVec.ofInt 16 (s.pc.toNat + e.toInt) ∧ keepsData s t ∧ t.sp = s.sp ∧ t.addcyc = s.addcyc ∧
      keepsControl s t ∧ makesAccesses s t [])

/-- 43_control_flow.md R220, R222, R225: JP cc and JR cc, taken and untaken; a taken one adds its family's additional
cycles. -/
def Obligations.ConditionalJumpsFollowFlags : Prop :=
  (∀ y : Octal, codeCond (Cond.ofY y) = y.toNat % 4) ∧
  (∀ (s : State) (cc : Cond) (w : Word),
    encode (rowJp cc w) = [opByte (0xC2 + 8 * codeCond cc), lo8 w, hi8 w] ∧
    completes (rowJp cc w) s fun t =>
      t.pc = (if condHolds s cc then w else s.pc) ∧
      t.addcyc = (if condHolds s cc then s.addcyc + s.params.cyc.takenJp else s.addcyc) ∧
      keepsData s t ∧ t.sp = s.sp ∧ keepsControl s t ∧ makesAccesses s t []) ∧
  (∀ (s : State) (cc : Cond) (e : Byte),
    encode (rowJr cc e) = [opByte (0x20 + 8 * codeCond cc), e] ∧
    completes (rowJr cc e) s fun t =>
      t.pc = (if condHolds s cc then BitVec.ofInt 16 (s.pc.toNat + e.toInt) else s.pc) ∧
      t.addcyc = (if condHolds s cc then s.addcyc + s.params.cyc.takenJr else s.addcyc) ∧
      keepsData s t ∧ t.sp = s.sp ∧ keepsControl s t ∧ makesAccesses s t [])

/-- 43_control_flow.md R226, R230: CALL and RST push the address after the instruction, where PC stands, and jump; RST
to eight times its number. -/
def Obligations.CallAndRstPushReturnAddress : Prop :=
  (∀ w : Word, encode (.callA16 w) = [0xCD, lo8 w, hi8 w]) ∧
  (∀ n : Octal, encode (rowRst n) = [opByte (0xC7 + 8 * n.toNat)]) ∧
  (∀ (s : State) (i : Instr) (w : Word),
    (i = .callA16 w ∨ ∃ n : Octal, i = rowRst n ∧ w = BitVec.ofNat 16 (8 * n.toNat)) →
    completes i s fun t =>
      t.pc = w ∧ t.sp = s.sp - 2 ∧
      makesAccesses s t [.write (s.sp - 1) (hi8 s.pc), .write (s.sp - 2) (lo8 s.pc)] ∧
      keepsRegsBut [] s t ∧ t.f = s.f ∧ t.addcyc = s.addcyc ∧ keepsControl s t)

/-- 43_control_flow.md R228, R234: RET pops PC, low byte first; RETI does the same and sets IME, and restores nothing
else. -/
def Obligations.RetAndRetiPopPc : Prop :=
  encode .ret = [0xC9] ∧ encode .reti = [0xD9] ∧
  (∀ s : State,
    completes .ret s fun t =>
      t.pc.toNat = (s.peek (s.sp + 1)).toNat * 256 + (s.peek s.sp).toNat ∧ t.sp = s.sp + 2 ∧
      makesAccesses s t [.read s.sp (s.peek s.sp), .read (s.sp + 1) (s.peek (s.sp + 1))] ∧
      keepsData s t ∧ t.addcyc = s.addcyc ∧ keepsControl s t) ∧
  (∀ s : State,
    completes .reti s fun t =>
      t.ime = true ∧
      t.pc.toNat = (s.peek (s.sp + 1)).toNat * 256 + (s.peek s.sp).toNat ∧ t.sp = s.sp + 2 ∧
      makesAccesses s t [.read s.sp (s.peek s.sp), .read (s.sp + 1) (s.peek (s.sp + 1))] ∧
      keepsData s t ∧ t.addcyc = s.addcyc ∧ t.halted = s.halted ∧ t.haltbug = s.haltbug ∧
      t.params = s.params ∧ t.env = s.env ∧ t.freeCount = s.freeCount)

/-- 43_control_flow.md R227, R229: CALL cc and RET cc; untaken, there is no stack access and SP and PC stay. -/
def Obligations.ConditionalCallsAndReturns : Prop :=
  (∀ (s : State) (cc : Cond) (w : Word),
    encode (rowCall cc w) = [opByte (0xC4 + 8 * codeCond cc), lo8 w, hi8 w] ∧
    completes (rowCall cc w) s fun t =>
      t.pc = (if condHolds s cc then w else s.pc) ∧
      t.sp = (if condHolds s cc then s.sp - 2 else s.sp) ∧
      t.addcyc = (if condHolds s cc then s.addcyc + s.params.cyc.takenCall else s.addcyc) ∧
      makesAccesses s t
        (if condHolds s cc then [.write (s.sp - 1) (hi8 s.pc), .write (s.sp - 2) (lo8 s.pc)] else []) ∧
      (condHolds s cc = false → keepsBus s t) ∧
      keepsRegsBut [] s t ∧ t.f = s.f ∧ keepsControl s t) ∧
  (∀ (s : State) (cc : Cond),
    encode (rowRet cc) = [opByte (0xC0 + 8 * codeCond cc)] ∧
    completes (rowRet cc) s fun t =>
      t.pc.toNat =
        (if condHolds s cc then (s.peek (s.sp + 1)).toNat * 256 + (s.peek s.sp).toNat else s.pc.toNat) ∧
      t.sp = (if condHolds s cc then s.sp + 2 else s.sp) ∧
      t.addcyc = (if condHolds s cc then s.addcyc + s.params.cyc.takenRet else s.addcyc) ∧
      makesAccesses s t
        (if condHolds s cc then [.read s.sp (s.peek s.sp), .read (s.sp + 1) (s.peek (s.sp + 1))] else []) ∧
      keepsData s t ∧ keepsControl s t)

/-! ### System instructions -/

/-- 44_interrupt_halt_misc.md R250, R252, R253: NOP does nothing beyond its fetch; DI clears and EI sets IME, at
once. -/
def Obligations.NopDiEiEffects : Prop :=
  encode .nop = [0x00] ∧ encode .di = [0xF3] ∧ encode .ei = [0xFB] ∧
  (∀ s : State, completes .nop s fun t => t = s) ∧
  (∀ (s : State) (i : Instr) (v : Bool), (i = .di ∧ v = false ∨ i = .ei ∧ v = true) →
    completes i s fun t =>
      t.ime = v ∧ keepsData s t ∧ t.sp = s.sp ∧ t.pc = s.pc ∧ t.addcyc = s.addcyc ∧ t.halted = s.halted ∧
      t.haltbug = s.haltbug ∧ t.params = s.params ∧ t.env = s.env ∧ t.freeCount = s.freeCount ∧
      makesAccesses s t [])

/-- 44_interrupt_halt_misc.md R251: HALT sets HALTED, whatever IME, IF and IE are, so that the next step is a halt tick,
and does not set the halt-bug latch (with `HALTBUG_CONDITION` at its default). -/
def Obligations.HaltSetsHalted : Prop :=
  encode .halt = [0x76] ∧
  ∀ s : State, s.params.haltbugCondition = .envOnly →
    completes .halt s fun t =>
      t.halted = true ∧ instrStep t = .next t.haltTick ∧
      t.haltbug = s.haltbug ∧ t.ime = s.ime ∧ keepsData s t ∧ t.sp = s.sp ∧ t.pc = s.pc ∧
      t.addcyc = s.addcyc ∧ t.params = s.params ∧ t.env = s.env ∧ t.freeCount = s.freeCount ∧
      makesAccesses s t []

/-- HALT under `HALTBUG_CONDITION = lr35902` (92_eei_decisions.md D14): with IME = 0 and a pending and enabled
interrupt it sets the halt-bug latch and does not halt; else it halts. How it samples IF and IE is the model's choice
(log 12). -/
def Obligations.HaltUnderHaltBugCondition : Prop :=
  ∀ s : State, s.params.haltbugCondition = .lr35902 →
    completes .halt s fun t =>
      (if s.ime = false ∧ s.peek 0xFF0F &&& s.peek 0xFFFF &&& 0x1F ≠ 0 then
        t.haltbug = true ∧ t.halted = s.halted
      else t.halted = true ∧ t.haltbug = s.haltbug) ∧
      t.ime = s.ime ∧ keepsData s t ∧ t.sp = s.sp ∧ t.pc = s.pc ∧ t.addcyc = s.addcyc ∧
      t.params = s.params ∧ t.env = s.env ∧ t.freeCount = s.freeCount

/-- 44_interrupt_halt_misc.md R254: the three choices of `STOP_BEHAVIOUR`, and how many bytes STOP takes under them. -/
def Obligations.StopFollowsParameter : Prop :=
  ∀ (s : State) (v : Byte),
    (s.params.stop = .refuse → exec (.stop v) s = .refused .stopRefused) ∧
    (s.params.stop = .nop2 → s.fetchLen 0x10 = 2 ∧ completes (.stop v) s fun t => t = s) ∧
    (s.params.stop = .invalid → s.fetchLen 0x10 = 1 ∧
      (s.params.invalidOpcode = .nop →
        completes (.stop v) s fun t =>
          s.sameButOut t ∧ t.out.invalid = some { addr := s.out.iaddr, op := 0x10 } ∧ makesAccesses s t []) ∧
      (s.params.invalidOpcode = .fault → exec (.stop v) s = .fault (.invalidOpcode s.out.iaddr 0x10)))

/-- 30_encoding.md R102, 44_interrupt_halt_misc.md R255, 60_exceptions.md R350: exactly eleven primary values are
invalid, each one byte long. An invalid opcode leaves its diagnostic record and nothing else, or, with
`INVALID_OPCODE_BEHAVIOUR = fault`, ends the run with it. The address in the record is where the step started. -/
def Obligations.InvalidOpcodesLeaveRecordOnly : Prop :=
  (∀ op b1 b2 : Byte, (∃ x ∈ invalidRows, decodeInstr op b1 b2 = x.1) ↔
    op ∈ [0xD3, 0xDB, 0xDD, 0xE3, 0xE4, 0xEB, 0xEC, 0xED, 0xF4, 0xFC, 0xFD]) ∧
  (∀ s : State, s.atExec.out.iaddr = s.pc) ∧
  ∀ x ∈ invalidRows, encode x.1 = [x.2] ∧ instrLen x.2 = 1 ∧ ∀ s : State,
    (s.params.invalidOpcode = .nop →
      completes x.1 s fun t =>
        s.sameButOut t ∧ t.out.invalid = some { addr := s.out.iaddr, op := x.2 } ∧ makesAccesses s t []) ∧
    (s.params.invalidOpcode = .fault → exec x.1 s = .fault (.invalidOpcode s.out.iaddr x.2))

/-! ### Loads and stores -/

/-- 45_load8.md R270, R271: LD r8,r8' and LD r8,d8; the source is read before the destination is written, and no flag
is written. -/
def Obligations.LoadsMoveOneByte : Prop :=
  (∀ dst src : R8, (dst, src) ≠ (.memHl, .memHl) →
    encode (rowLd dst src) = [opByte (0x40 + 8 * codeR8 dst + codeR8 src)]) ∧
  (∀ (dst : R8) (v : Byte), encode (rowLdImm8 dst v) = [opByte (0x06 + 8 * codeR8 dst), v]) ∧
  (∀ (s : State) (dst : R8) (i : Instr) (v : Byte) (acc : List BusEvent),
    ((∃ src, (dst, src) ≠ (.memHl, .memHl) ∧ i = rowLd dst src ∧ v = r8Value s src ∧ acc = r8Reads s src) ∨
      (i = rowLdImm8 dst v ∧ acc = [])) →
    completes i s fun t =>
      regHolds t v dst ∧ makesAccesses s t (acc ++ r8Writes s dst v) ∧ keepsRegsBut [dst] s t ∧ t.f = s.f ∧
      (dst ≠ .memHl → keepsBus s t) ∧ keepsFlow s t)

/-- 45_load8.md R272, R273, R276, R284, R286: the accumulator loads, with their effective addresses. -/
def Obligations.AccumulatorLoadsReadOneByte : Prop :=
  encode .ldAMemBc = [0x0A] ∧ encode .ldAMemDe = [0x1A] ∧ encode .ldAMemC = [0xF2] ∧
  (∀ w : Word, encode (.ldAMemA16 w) = [0xFA, lo8 w, hi8 w]) ∧ (∀ n : Byte, encode (.ldhAMemA8 n) = [0xF0, n]) ∧
  (∀ (s : State) (i : Instr) (addr : Word),
    (i = .ldAMemBc ∧ addr = s.bc ∨ i = .ldAMemDe ∧ addr = s.de ∨ i = .ldAMemA16 addr ∨
      (∃ n : Byte, i = .ldhAMemA8 n ∧ addr = BitVec.ofNat 16 (0xFF00 + n.toNat)) ∨
      i = .ldAMemC ∧ addr = BitVec.ofNat 16 (0xFF00 + s.c.toNat)) →
    completes i s fun t =>
      t.a = s.peek addr ∧ makesAccesses s t [.read addr (s.peek addr)] ∧
      keepsRegsBut [.a] s t ∧ t.f = s.f ∧ keepsBus s t ∧ keepsFlow s t)

/-- 45_load8.md R274, R275, R277, R283, R285: the accumulator stores, with their effective addresses. -/
def Obligations.AccumulatorStoresWriteOneByte : Prop :=
  encode .ldMemBcA = [0x02] ∧ encode .ldMemDeA = [0x12] ∧ encode .ldMemCA = [0xE2] ∧
  (∀ w : Word, encode (.ldMemA16A w) = [0xEA, lo8 w, hi8 w]) ∧ (∀ n : Byte, encode (.ldhMemA8A n) = [0xE0, n]) ∧
  (∀ (s : State) (i : Instr) (addr : Word),
    (i = .ldMemBcA ∧ addr = s.bc ∨ i = .ldMemDeA ∧ addr = s.de ∨ i = .ldMemA16A addr ∨
      (∃ n : Byte, i = .ldhMemA8A n ∧ addr = BitVec.ofNat 16 (0xFF00 + n.toNat)) ∨
      i = .ldMemCA ∧ addr = BitVec.ofNat 16 (0xFF00 + s.c.toNat)) →
    completes i s fun t =>
      makesAccesses s t [.write addr s.a] ∧ keepsRegsBut [] s t ∧ t.f = s.f ∧ keepsFlow s t)

/-- 45_load8.md R278 to R281: the moves through HL with post-increment and post-decrement; the access is at the old HL,
HL wraps, and no flag is written. -/
def Obligations.HlStepsAfterAccess : Prop :=
  encode .ldMemHlIncA = [0x22] ∧ encode .ldAMemHlInc = [0x2A] ∧ encode .ldMemHlDecA = [0x32] ∧
  encode .ldAMemHlDec = [0x3A] ∧
  (∀ (s : State) (i : Instr) (delta : Nat),
    (i = .ldMemHlIncA ∧ delta = 1 ∨ i = .ldMemHlDecA ∧ delta = 65535) →
    completes i s fun t =>
      makesAccesses s t [.write s.hl s.a] ∧ t.hl.toNat = (s.hl.toNat + delta) % 65536 ∧
      keepsRegsBut [.h, .l] s t ∧ t.f = s.f ∧ keepsFlow s t) ∧
  (∀ (s : State) (i : Instr) (delta : Nat),
    (i = .ldAMemHlInc ∧ delta = 1 ∨ i = .ldAMemHlDec ∧ delta = 65535) →
    completes i s fun t =>
      t.a = s.peek s.hl ∧ makesAccesses s t [.read s.hl (s.peek s.hl)] ∧
      t.hl.toNat = (s.hl.toNat + delta) % 65536 ∧
      keepsRegsBut [.a, .h, .l] s t ∧ t.f = s.f ∧ keepsBus s t ∧ keepsFlow s t)

/-- 46_load16_stack.md R310, R312: LD rr,d16 and LD SP,HL. -/
def Obligations.WordLoadsSetPair : Prop :=
  (∀ (s : State) (p : Rp) (w : Word),
    encode (rowLdImm16 p w) = [opByte (0x01 + 16 * codeRp p), lo8 w, hi8 w] ∧
    completes (rowLdImm16 p w) s fun t =>
      t.getRp p = w ∧ (p ≠ .sp → t.sp = s.sp) ∧ keepsRegsBut (rpRegs p) s t ∧ t.f = s.f ∧
      keepsBus s t ∧ t.pc = s.pc ∧ t.addcyc = s.addcyc ∧ keepsControl s t ∧ makesAccesses s t []) ∧
  (∀ s : State,
    encode .ldSpHl = [0xF9] ∧
    completes .ldSpHl s fun t =>
      t.sp = s.hl ∧ keepsData s t ∧ t.pc = s.pc ∧ t.addcyc = s.addcyc ∧ keepsControl s t ∧
      makesAccesses s t [])

/-- 46_load16_stack.md R311: LD (a16),SP writes the low byte at a16 and then the high byte at a16 + 1, which wraps. -/
def Obligations.StoreSpWritesLowByteFirst : Prop :=
  ∀ (s : State) (w : Word),
    encode (.ldMemA16Sp w) = [0x08, lo8 w, hi8 w] ∧
    completes (.ldMemA16Sp w) s fun t =>
      makesAccesses s t [.write w (lo8 s.sp), .write (w + 1) (hi8 s.sp)] ∧
      keepsRegsBut [] s t ∧ t.f = s.f ∧ keepsFlow s t

/-- 46_load16_stack.md R313, R314: PUSH of each pair, high byte first at decremented SP; for AF the low byte is F with
bits 3..0 zero. -/
def Obligations.PushWritesHighByteFirst : Prop :=
  ∀ (s : State) (p : Rp2),
    encode (rowPush p) = [opByte (0xC5 + 16 * codeRp2 p)] ∧
    completes (rowPush p) s fun t =>
      t.sp = s.sp - 2 ∧
      makesAccesses s t [.write (s.sp - 1) (hi8 (s.getRp2 p)), .write (s.sp - 2) (lo8 (s.getRp2 p))] ∧
      (p = .af → hi8 (s.getRp2 p) = s.a ∧ lo8 (s.getRp2 p) = s.f &&& 0xF0) ∧
      keepsRegsBut [] s t ∧ t.f = s.f ∧ t.pc = s.pc ∧ t.addcyc = s.addcyc ∧ keepsControl s t

/-- 46_load16_stack.md R316, R318: POP of each pair, low byte first; POP AF writes all four flags from the popped byte
and drops its low four bits. -/
def Obligations.PopReadsLowByteFirst : Prop :=
  ∀ (s : State) (p : Rp2),
    encode (rowPop p) = [opByte (0xC1 + 16 * codeRp2 p)] ∧
    completes (rowPop p) s fun t =>
      (p ≠ .af →
        (t.getRp2 p).toNat = (s.peek (s.sp + 1)).toNat * 256 + (s.peek s.sp).toNat ∧ t.f = s.f) ∧
      (p = .af → t.a = s.peek (s.sp + 1) ∧ t.f = s.peek s.sp &&& 0xF0 ∧
        flagsAre t ((s.peek s.sp).getLsbD 7) ((s.peek s.sp).getLsbD 6) ((s.peek s.sp).getLsbD 5)
          ((s.peek s.sp).getLsbD 4)) ∧
      t.sp = s.sp + 2 ∧
      makesAccesses s t [.read s.sp (s.peek s.sp), .read (s.sp + 1) (s.peek (s.sp + 1))] ∧
      keepsRegsBut (rp2Regs p) s t ∧ keepsBus s t ∧ t.pc = s.pc ∧ t.addcyc = s.addcyc ∧
      keepsControl s t

/-- What each storing form writes, with its computed addresses: the bus is left as those writes leave it, in their
order, whatever bus it is (20_memory.md R62, R63). Where it is plain memory, these bytes are stored and no other byte
of memory changes. -/
def Obligations.StoredBytesAndNoOthers : Prop :=
  ∀ s : State,
    storesExactly .incMemHl s [(s.hl, s.peek s.hl + 1)] ∧
    storesExactly .decMemHl s [(s.hl, s.peek s.hl - 1)] ∧
    (∀ k : Rot, storesExactly (rowRot k .memHl) s [(s.hl, rotRes k (s.peek s.hl) s.flagC)]) ∧
    (∀ b : Octal, storesExactly (rowRes b .memHl) s [(s.hl, resBit b (s.peek s.hl))]) ∧
    (∀ b : Octal, storesExactly (rowSet b .memHl) s [(s.hl, setBit b (s.peek s.hl))]) ∧
    (∀ r : R8, r ≠ .memHl → storesExactly (rowLd .memHl r) s [(s.hl, r8Value s r)]) ∧
    (∀ v : Byte, storesExactly (.ldMemHlD8 v) s [(s.hl, v)]) ∧
    storesExactly .ldMemBcA s [(s.bc, s.a)] ∧
    storesExactly .ldMemDeA s [(s.de, s.a)] ∧
    (∀ w : Word, storesExactly (.ldMemA16A w) s [(w, s.a)]) ∧
    (∀ n : Byte, storesExactly (.ldhMemA8A n) s [(highAddr n, s.a)]) ∧
    storesExactly .ldMemCA s [(highAddr s.c, s.a)] ∧
    storesExactly .ldMemHlIncA s [(s.hl, s.a)] ∧
    storesExactly .ldMemHlDecA s [(s.hl, s.a)] ∧
    (∀ w : Word, storesExactly (.ldMemA16Sp w) s [(w, lo8 s.sp), (w + 1, hi8 s.sp)]) ∧
    (∀ p : Rp2, storesExactly (rowPush p) s [(s.sp - 1, hi8 (s.getRp2 p)), (s.sp - 2, lo8 (s.getRp2 p))]) ∧
    (∀ w : Word, storesExactly (.callA16 w) s [(s.sp - 1, hi8 s.pc), (s.sp - 2, lo8 s.pc)]) ∧
    (∀ n : Octal, storesExactly (rowRst n) s [(s.sp - 1, hi8 s.pc), (s.sp - 2, lo8 s.pc)]) ∧
    (∀ (cc : Cond) (w : Word),
      storesExactly (rowCall cc w) s
        (if condHolds s cc then [(s.sp - 1, hi8 s.pc), (s.sp - 2, lo8 s.pc)] else []))

/-! ### Interrupts -/

/-- 60_exceptions.md R359: with IME = 0 (and `HALT_WAKE_WITHOUT_IME` at its default) nothing happens and the bus is not
read; with IME = 1, IF and IE are read, in that order, and the highest pending and enabled source, if there is one, is
dispatched. With IME = 0 and `HALT_WAKE_WITHOUT_IME = true` (92_eei_decisions.md D13) the check answers 0 and dispatches
nothing: where the core is halted and a source is pending and enabled, HALTED is cleared, and otherwise nothing of the
state changes; which accesses it makes then is the model's choice (log 13), so nothing is said of them here. -/
def Obligations.InterruptCheckDispatchesHighest : Prop :=
  (∀ s : State, s.ime = false → s.params.haltWakeWithoutIme = false → s.interruptCheck = (0, s)) ∧
  (∀ s : State, s.ime = true →
    let m : Byte := s.peek 0xFF0F &&& s.peek 0xFFFF &&& 0x1F
    let u : State := s.readPending
    makesAccesses s u [.read 0xFF0F (s.peek 0xFF0F), .read 0xFFFF (s.peek 0xFFFF)] ∧ s.sameButOut u ∧
    (m = 0 → s.interruptCheck = (0, u)) ∧
    (m ≠ 0 → ∃ src, highest m = some src ∧
      s.interruptCheck = (s.params.intDispatchCycles, u.dispatch src (s.peek 0xFF0F)))) ∧
  (∀ s : State, s.ime = false → s.params.haltWakeWithoutIme = true →
    let m : Byte := s.peek 0xFF0F &&& s.peek 0xFFFF &&& 0x1F
    s.interruptCheck.1 = 0 ∧
    (s.halted = true → m ≠ 0 → (s.setHalted false).sameButOut s.interruptCheck.2) ∧
    (s.halted = false ∨ m = 0 → s.sameButOut s.interruptCheck.2))

/-- 60_exceptions.md R360: interrupt entry. PC is pushed and nothing else is saved; HALTED and IME are cleared, the
serviced bit of IF is cleared in the value read, PC becomes the vector, and registers, flags and the halt-bug latch
stay. -/
def Obligations.DispatchEntersHandler : Prop :=
  ∀ (s : State) (src : Source) (f : Byte),
    (s.dispatch src f).halted = false ∧ (s.dispatch src f).ime = false ∧
    (s.dispatch src f).sp = s.sp - 2 ∧ (s.dispatch src f).pc = intVec src ∧
    makesAccesses s (s.dispatch src f)
      [.write (s.sp - 1) (hi8 s.pc), .write (s.sp - 2) (lo8 s.pc),
       .write 0xFF0F (f &&& ~~~(BitVec.ofNat 8 (2 ^ intBit src)))] ∧
    (s.dispatch src f).busState =
      busWrites s.busState [(s.sp - 1, hi8 s.pc), (s.sp - 2, lo8 s.pc),
        (0xFF0F, f &&& ~~~(BitVec.ofNat 8 (2 ^ intBit src)))] ∧
    keepsRegsBut [] s (s.dispatch src f) ∧ (s.dispatch src f).f = s.f ∧
    (s.dispatch src f).haltbug = s.haltbug ∧ (s.dispatch src f).addcyc = s.addcyc ∧
    (s.dispatch src f).params = s.params ∧ (s.dispatch src f).env = s.env ∧
    (s.dispatch src f).freeCount = s.freeCount

/-- 60_exceptions.md R357, R358: the source chosen is the least bit set among the five, and the bits and vectors of the
sources. -/
def Obligations.LowestBitHasPriority : Prop :=
  (∀ (m : Byte) (src : Source),
    highest m = some src ↔ m.getLsbD (intBit src) = true ∧ ∀ j < intBit src, m.getLsbD j = false) ∧
  (∀ m : Byte, highest m = none ↔ m &&& 0x1F = 0) ∧
  (∀ src : Source, intVec src = BitVec.ofNat 16 (0x0040 + 8 * intBit src)) ∧
  intBit .vblank = 0 ∧ intBit .lcdStat = 1 ∧ intBit .timer = 2 ∧ intBit .serial = 3 ∧ intBit .joypad = 4

/-- A machine cycle with a quiescent environment ends with the interrupt check of the state after the step, halted or
not (60_exceptions.md R353, R361, R365): with IME = 1 a pending and enabled source is entered before the next
instruction, its return address is where the next instruction stands, and a halted core runs again. The three writes
meet whatever bus there is; the bytes of the stack and of IF are those of plain memory (log 1). -/
def Obligations.PendingInterruptIsTakenAfterStep : Prop :=
  ∀ (s t : State) (src : Source),
    instrStep s = .next t → t.env = [] → t.ime = true →
    highest (t.peek 0xFF0F &&& t.peek 0xFFFF &&& 0x1F) = some src →
    ∃ u, step s = .next u ∧
      u.pc = intVec src ∧ u.ime = false ∧ u.halted = false ∧ u.sp = t.sp - 2 ∧
      u.busState = busWrites t.busState [(t.sp - 1, hi8 t.pc), (t.sp - 2, lo8 t.pc),
        (0xFF0F, t.peek 0xFF0F &&& ~~~(BitVec.ofNat 8 (2 ^ intBit src)))] ∧
      (plainBus t →
        (t.sp - 1 ≠ 0xFF0F → u.peek (t.sp - 1) = hi8 t.pc) ∧
        (t.sp - 2 ≠ 0xFF0F → u.peek (t.sp - 2) = lo8 t.pc) ∧
        u.peek 0xFF0F = t.peek 0xFF0F &&& ~~~(BitVec.ofNat 8 (2 ^ intBit src)) ∧
        keepsMemoryBut [t.sp - 1, t.sp - 2, 0xFF0F] t u) ∧
      keepsRegsBut [] t u ∧ u.f = t.f ∧ u.haltbug = t.haltbug ∧
      u.out.dispatchCycles = t.params.intDispatchCycles

/-! ### The whole machine -/

/-- An instruction that 10_state.md R31 does not list as a flag writer leaves all of F, and so do an interrupt dispatch
and a halt tick. -/
def Obligations.OnlyListedInstructionsWriteFlags : Prop :=
  (∀ (i : Instr) (s t : State), exec i s = .next t → mayWriteFlags i = false → t.f = s.f) ∧
  (∀ (s : State) (src : Source) (v : Byte), (s.dispatch src v).f = s.f) ∧
  (∀ s : State, s.haltTick.f = s.f)

/-- Who writes the control state. Of the instructions (10_state.md R32 to R34), IME by DI, EI and RETI alone, HALTED by
HALT alone, the halt-bug latch by none but HALT under `HALTBUG_CONDITION = lr35902`, the rest by none. Between steps,
the environment (60_exceptions.md R353, R371, R372; 92_eei_decisions.md D14; its list is the model's, log 8): an event
on the bus changes no state of the core, a put changing the bits of its mask alone, and `haltbug_set` sets the halt-bug
latch and nothing else. One `EnvAdvance` takes one entry of the list, does its bus changes in their order and, with no
reset among its events, changes nothing but the bus and the latch; where the list has ended it does nothing. A step
takes one entry, and a second one where a dispatch answers a count above 0 (log 7). -/
def Obligations.OnlyNamedEventsWriteControl : Prop :=
  (∀ (i : Instr) (s t : State), exec i s = .next t →
    (i = .di → t.ime = false) ∧ (i = .ei ∨ i = .reti → t.ime = true) ∧
    (i ≠ .di → i ≠ .ei → i ≠ .reti → t.ime = s.ime) ∧
    (i ≠ .halt → t.halted = s.halted) ∧
    (i ≠ .halt ∨ s.params.haltbugCondition = .envOnly → t.haltbug = s.haltbug) ∧
    t.params = s.params ∧ t.env = s.env ∧ t.freeCount = s.freeCount) ∧
  (∀ (s : State) (c : BusChange),
    (s.envEvent (.bus c)).setBusState s.busState = s ∧ (s.envEvent (.bus c)).busState.rules = s.busState.rules) ∧
  (∀ (s : State) (addr : Word) (mask v : Byte),
    (∀ j < 8, ((s.envEvent (.bus (.put addr mask v))).peek addr).getLsbD j =
      if mask.getLsbD j then v.getLsbD j else (s.peek addr).getLsbD j) ∧
    keepsMemoryBut [addr] s (s.envEvent (.bus (.put addr mask v)))) ∧
  (∀ s : State,
    (s.envEvent .haltbugSet).haltbug = true ∧ (s.envEvent .haltbugSet).setHaltbug s.haltbug = s) ∧
  (∀ (s : State) (es : List EnvEvent) (rest : List (List EnvEvent)), s.env = es :: rest →
    let t : State := s.envAdvance
    t.env = rest ∧ t.busState = busChanges s.busState (es.filterMap EnvEvent.busPart) ∧
    t.params = s.params ∧ t.out = s.out ∧
    (.reset ∉ es →
      (t.haltbug = true ↔ s.haltbug = true ∨ .haltbugSet ∈ es) ∧
      ((t.setEnv s.env).setBusState s.busState).setHaltbug s.haltbug = s)) ∧
  (∀ s : State, s.env = [] → s.envAdvance = s) ∧
  (∀ s t : State, step s = .next t → t.env = s.env.drop (if t.out.dispatchCycles = 0 then 1 else 2))

/-- Every instruction acts on the bus through its recorded accesses alone, one byte each, in their order: each read
returns the byte that the bus presented at that moment, after what the bus did with the writes before it, and the bus
afterwards is what the writes leave, whatever bus it is (20_memory.md R61 to R63, R74; the form of the bus is log 9,
the record of its accesses log 10). -/
def Obligations.MemoryChangesOnlyByBusWrites : Prop :=
  ∀ (i : Instr) (s t : State), exec i s = .next t →
    ∃ acc, t.out.bus = s.out.bus ++ acc ∧ busAgrees acc s.busState ∧
      t.busState = replayBus acc s.busState

/-- The state after reset meets the invariant. -/
def Obligations.InvariantHoldsAtReset : Prop := State.reset.Inv

/-- Every step keeps the invariant: memory in canonical form, F[3:0] = 0 (10_state.md R29), ADDCYC = 0 between steps
(R35). -/
def Obligations.EveryStepKeepsInvariant : Prop :=
  ∀ s t : State, s.Inv → step s = .next t → t.Inv

/-- Every step of every state has a next state, with the same parameters and the same rules of the bus, but for the
two stops that a parameter asks for (60_exceptions.md R351, R352): STOP under `refuse`, and an invalid opcode (or STOP
under `invalid`) under `fault`. -/
def Obligations.EveryStepIsTotal : Prop :=
  ∀ s : State,
    (∃ t, step s = .next t ∧ t.params = s.params ∧ t.busState.rules = s.busState.rules) ∨
    (step s = .refused .stopRefused ∧ s.halted = false ∧ s.peek s.pc = 0x10 ∧ s.params.stop = .refuse) ∨
    (step s = .fault (.invalidOpcode s.pc (s.peek s.pc)) ∧ s.halted = false ∧ s.params.invalidOpcode = .fault ∧
      (s.peek s.pc ∈ [0xD3, 0xDB, 0xDD, 0xE3, 0xE4, 0xEB, 0xEC, 0xED, 0xF4, 0xFC, 0xFD] ∨
        s.peek s.pc = 0x10 ∧ s.params.stop = .invalid))

/-- No step reads the outputs of an earlier one (10_state.md R41, 60_exceptions.md R380; log 10). -/
def Obligations.OutputsAreNeverRead : Prop :=
  ∀ (s : State) (o : Output), step (s.setOut o) = step s

/-- A core halted with IME = 0 in a quiescent environment stays so under `HALT_WAKE_WITHOUT_IME = false`, which the
model's `hung` asks for (log 19): only the outputs change (44_interrupt_halt_misc.md R251, corner case (a);
60_exceptions.md R365). Under `true` (92_eei_decisions.md D13) it runs again once a source is pending and enabled, with
no dispatch, and until then only the outputs change; that each such check reads IF and then IE is the model's choice
(DESIGN CHOICE, log 13). -/
def Obligations.HaltedCoreStaysOrWakes : Prop :=
  (∀ s : State, s.hung → ∃ t, step s = .next t ∧ s.sameButOut t ∧ t.hung ∧ t.out.bus = []) ∧
  (∀ s : State, s.halted = true → s.ime = false → s.env = [] → s.params.haltWakeWithoutIme = true →
    let m : Byte := s.peek 0xFF0F &&& s.peek 0xFFFF &&& 0x1F
    ∃ t, step s = .next t ∧ (s.setHalted (decide (m = 0))).sameButOut t ∧ t.out.dispatchCycles = 0 ∧
      t.out.bus = [.read 0xFF0F (s.peek 0xFF0F), .read 0xFFFF (s.peek 0xFFFF)])

end
end

