-- ==== Sys2Proof/Laws/Memory.lean ====
section
/-! SUPPORT. Memory as data and the bus: a read after a write, the canonical form kept by every operation, and the rules
of the bus that no operation changes. -/
namespace Sys2Proof.Machine

theorem memLookup_memErase_same (m : Memory) (k : Nat) : memLookup (memErase m k) k = unlistedByte := by
  induction m with
  | nil => rfl
  | cons p m ih =>
    obtain ⟨j, v⟩ := p
    by_cases h : j = k <;> simp [memErase, memLookup, h, ih]

theorem memLookup_memErase_other (m : Memory) {k k' : Nat} (h : k' ≠ k) :
    memLookup (memErase m k) k' = memLookup m k' := by
  induction m with
  | nil => rfl
  | cons p m ih =>
    obtain ⟨j, v⟩ := p
    by_cases hj : j = k
    · subst hj; simp [memErase, memLookup, ih, Ne.symm h]
    · rw [memErase, if_neg hj, memLookup, memLookup, ih]

theorem memLookup_memInsert_other (m : Memory) {k k' : Nat} (v : Byte) (h : k' ≠ k) :
    memLookup (memInsert m k v) k' = memLookup m k' := by
  induction m with
  | nil => simp [memInsert, memLookup, Ne.symm h]
  | cons p m ih =>
    obtain ⟨j, w⟩ := p
    by_cases hj : k < j
    · simp [memInsert, memLookup, hj, Ne.symm h]
    · rw [memInsert, if_neg hj, memLookup, memLookup, ih]

theorem memLookup_memInsert_same (m : Memory) (k : Nat) (v : Byte) (h : memErase m k = m) :
    memLookup (memInsert m k v) k = v := by
  induction m with
  | nil => simp [memInsert, memLookup]
  | cons p m ih =>
    obtain ⟨j, w⟩ := p
    by_cases hjk : j = k
    · exfalso
      have hl := congrArg List.length h
      have hle : ∀ m : Memory, (memErase m k).length ≤ m.length := by
        intro m
        induction m with
        | nil => simp [memErase]
        | cons p m ih => obtain ⟨i, u⟩ := p; simp only [memErase]; split <;> simp <;> omega
      have := hle m
      simp [memErase, hjk] at hl
      omega
    · simp only [memErase, hjk, if_false, List.cons.injEq, true_and] at h
      by_cases hj : k < j
      · simp [memInsert, memLookup, hj]
      · simp [memInsert, memLookup, hj, hjk, ih h]

theorem memErase_memErase (m : Memory) (k : Nat) : memErase (memErase m k) k = memErase m k := by
  induction m with
  | nil => rfl
  | cons p m ih =>
    obtain ⟨j, v⟩ := p
    by_cases h : j = k <;> simp [memErase, h, ih]

/-- A read after a store to the same address gives the byte stored. -/
theorem memLookup_memStore_same (m : Memory) (k : Nat) (v : Byte) : memLookup (memStore m k v) k = v := by
  unfold memStore
  split
  · next h => rw [memLookup_memErase_same, h]
  · exact memLookup_memInsert_same _ _ _ (memErase_memErase m k)

/-- A store leaves every other address alone. -/
theorem memLookup_memStore_other (m : Memory) {k k' : Nat} (v : Byte) (h : k' ≠ k) :
    memLookup (memStore m k v) k' = memLookup m k' := by
  unfold memStore
  split
  · exact memLookup_memErase_other m h
  · rw [memLookup_memInsert_other _ _ h, memLookup_memErase_other m h]

theorem memWfFrom_cons (lo j : Nat) (v : Byte) (m : Memory) :
    memWfFrom lo ((j, v) :: m) = true ↔
      lo ≤ j ∧ j < 65536 ∧ v ≠ unlistedByte ∧ memWfFrom (j + 1) m = true := by
  simp [memWfFrom, and_assoc]

theorem memWfFrom_mono {lo lo' : Nat} (h : lo' ≤ lo) {m : Memory} (hm : memWfFrom lo m = true) :
    memWfFrom lo' m = true := by
  cases m with
  | nil => rfl
  | cons p m =>
    obtain ⟨j, v⟩ := p
    rw [memWfFrom_cons] at hm ⊢
    exact ⟨by omega, hm.2⟩

theorem memWfFrom_memErase (k : Nat) {lo : Nat} {m : Memory} (h : memWfFrom lo m = true) :
    memWfFrom lo (memErase m k) = true := by
  induction m generalizing lo with
  | nil => exact h
  | cons p m ih =>
    obtain ⟨j, v⟩ := p
    rw [memWfFrom_cons] at h
    unfold memErase
    split
    · exact ih (memWfFrom_mono (by omega) h.2.2.2)
    · rw [memWfFrom_cons]
      exact ⟨h.1, h.2.1, h.2.2.1, ih h.2.2.2⟩

theorem memWfFrom_memInsert {k lo : Nat} {v : Byte} (hk : k < 65536) (hv : v ≠ unlistedByte) (hlo : lo ≤ k)
    {m : Memory} (h : memWfFrom lo m = true) (hf : memErase m k = m) :
    memWfFrom lo (memInsert m k v) = true := by
  induction m generalizing lo with
  | nil => simp [memInsert, memWfFrom, hk, hv, hlo]
  | cons p m ih =>
    obtain ⟨j, w⟩ := p
    rw [memWfFrom_cons] at h
    have hjk : j ≠ k := by
      intro hjk
      have := memLookup_memErase_same ((j, w) :: m) k
      rw [hf] at this
      simp [memLookup, hjk] at this
      exact h.2.2.1 this
    simp only [memErase, hjk, if_false, List.cons.injEq, true_and] at hf
    unfold memInsert
    split
    · next hlt =>
      rw [memWfFrom_cons, memWfFrom_cons]
      exact ⟨hlo, hk, hv, by omega, h.2.1, h.2.2.1, h.2.2.2⟩
    · next hge =>
      rw [memWfFrom_cons]
      exact ⟨h.1, h.2.1, h.2.2.1, ih (by omega) h.2.2.2 hf⟩

/-- Storing a byte keeps the canonical form. -/
theorem memWf_memStore {m : Memory} {k : Nat} (v : Byte) (hk : k < 65536) (h : Memory.wf m = true) :
    Memory.wf (memStore m k v) = true := by
  unfold memStore
  split
  · exact memWfFrom_memErase k h
  · next hv =>
    exact memWfFrom_memInsert hk hv (by omega) (memWfFrom_memErase k h) (memErase_memErase m k)

/-- Memory after reset is in canonical form. -/
theorem memWf_reset : Memory.wf State.reset.busState.mem = true := rfl

/-! ### The bus -/

/-- What the bus presents is the byte put there. -/
@[simp] theorem busRead_busPut_same (b : Bus) (addr : Word) (v : Byte) : busRead (busPut b addr v) addr = v :=
  memLookup_memStore_same _ _ _

/-- A byte put on the bus leaves every other address alone. -/
theorem busRead_busPut_other (b : Bus) {addr addr' : Word} (v : Byte) (h : addr' ≠ addr) :
    busRead (busPut b addr v) addr' = busRead b addr' :=
  memLookup_memStore_other _ _ (fun e => h (BitVec.eq_of_toNat_eq e))

@[simp] theorem busPut_mode (b : Bus) (addr : Word) (v : Byte) : (busPut b addr v).mode = b.mode := rfl
@[simp] theorem busPut_rules (b : Bus) (addr : Word) (v : Byte) : (busPut b addr v).rules = b.rules := rfl

theorem busCopy_rules (len : Nat) (b : Bus) (src dst : Word) : (busCopy b src dst len).rules = b.rules := by
  induction len generalizing b src dst with
  | zero => rfl
  | succ n ih => rw [busCopy, ih, busPut_rules]

@[simp] theorem busChange_rules (b : Bus) (c : BusChange) : (busChange b c).rules = b.rules := by
  cases c with
  | put addr mask v => rfl
  | copy src dst len => exact busCopy_rules len b src dst
  | enter n => rfl

@[simp] theorem busChanges_rules (cs : List BusChange) (b : Bus) : (busChanges b cs).rules = b.rules := by
  induction cs generalizing b with
  | nil => rfl
  | cons c cs ih => rw [busChanges, ih, busChange_rules]

/-- No write changes what the bus does with writes. -/
@[simp] theorem busWrite_rules (b : Bus) (addr : Word) (v : Byte) : (busWrite b addr v).rules = b.rules := by
  unfold busWrite
  split
  · rfl
  · rw [busChanges_rules, busPut_rules]

theorem memWf_busPut {b : Bus} (addr : Word) (v : Byte) (h : Memory.wf b.mem = true) :
    Memory.wf (busPut b addr v).mem = true :=
  memWf_memStore v addr.isLt h

theorem memWf_busCopy (len : Nat) {b : Bus} (src dst : Word) (h : Memory.wf b.mem = true) :
    Memory.wf (busCopy b src dst len).mem = true := by
  induction len generalizing b src dst with
  | zero => exact h
  | succ n ih => exact ih _ _ (memWf_busPut dst _ h)

theorem memWf_busChange {b : Bus} (c : BusChange) (h : Memory.wf b.mem = true) :
    Memory.wf (busChange b c).mem = true := by
  cases c with
  | put addr mask v => exact memWf_busPut addr _ h
  | copy src dst len => exact memWf_busCopy len src dst h
  | enter n => exact h

theorem memWf_busChanges (cs : List BusChange) {b : Bus} (h : Memory.wf b.mem = true) :
    Memory.wf (busChanges b cs).mem = true := by
  induction cs generalizing b with
  | nil => exact h
  | cons c cs ih => exact ih (memWf_busChange c h)

/-- Every write keeps memory in canonical form, whatever the bus does with it. -/
theorem memWf_busWrite {b : Bus} (addr : Word) (v : Byte) (h : Memory.wf b.mem = true) :
    Memory.wf (busWrite b addr v).mem = true := by
  unfold busWrite
  split
  · exact memWf_busPut addr v h
  · exact memWf_busChanges _ (memWf_busPut addr _ h)

/-- A bus without rules stores what is written. -/
theorem busWrite_plain {b : Bus} (h : b.rules = []) (addr : Word) (v : Byte) : busWrite b addr v = busPut b addr v := by
  unfold busWrite
  rw [h]
  rfl

/-- On plain memory a byte written is the byte the bus presents next. -/
theorem peek_memWrite_same {s : State} (hp : s.busState.rules = []) (addr : Word) (v : Byte) :
    (s.memWrite addr v).peek addr = v := by
  show busRead (busWrite s.busState addr v) addr = v
  rw [busWrite_plain hp, busRead_busPut_same]

/-- On plain memory a write changes the byte at its own address only. -/
theorem peek_memWrite_other {s : State} (hp : s.busState.rules = []) {addr addr' : Word} (v : Byte)
    (h : addr' ≠ addr) : (s.memWrite addr v).peek addr' = s.peek addr' := by
  show busRead (busWrite s.busState addr v) addr' = busRead s.busState addr'
  rw [busWrite_plain hp, busRead_busPut_other _ _ h]

/-- Every write on the bus keeps memory in canonical form. -/
theorem memWf_memWrite {s : State} (addr : Word) (v : Byte) (h : Memory.wf s.busState.mem = true) :
    Memory.wf (s.memWrite addr v).busState.mem = true :=
  memWf_busWrite addr v h

end Sys2Proof.Machine
end

