-- ==== Sys2Proof/Laws/State.lean ====
section
/-! SUPPORT. One lemma per field per update, each true by `rfl`. -/
namespace Sys2Proof.Machine

@[simp] theorem State.setA_a (s : State) (v : Byte) : (s.setA v).a = v := rfl
@[simp] theorem State.setA_b (s : State) (v : Byte) : (s.setA v).b = s.b := rfl
@[simp] theorem State.setA_c (s : State) (v : Byte) : (s.setA v).c = s.c := rfl
@[simp] theorem State.setA_d (s : State) (v : Byte) : (s.setA v).d = s.d := rfl
@[simp] theorem State.setA_e (s : State) (v : Byte) : (s.setA v).e = s.e := rfl
@[simp] theorem State.setA_h (s : State) (v : Byte) : (s.setA v).h = s.h := rfl
@[simp] theorem State.setA_l (s : State) (v : Byte) : (s.setA v).l = s.l := rfl
@[simp] theorem State.setA_f (s : State) (v : Byte) : (s.setA v).f = s.f := rfl
@[simp] theorem State.setA_sp (s : State) (v : Byte) : (s.setA v).sp = s.sp := rfl
@[simp] theorem State.setA_pc (s : State) (v : Byte) : (s.setA v).pc = s.pc := rfl
@[simp] theorem State.setA_ime (s : State) (v : Byte) : (s.setA v).ime = s.ime := rfl
@[simp] theorem State.setA_halted (s : State) (v : Byte) : (s.setA v).halted = s.halted := rfl
@[simp] theorem State.setA_haltbug (s : State) (v : Byte) : (s.setA v).haltbug = s.haltbug := rfl
@[simp] theorem State.setA_addcyc (s : State) (v : Byte) : (s.setA v).addcyc = s.addcyc := rfl
@[simp] theorem State.setA_busState (s : State) (v : Byte) : (s.setA v).busState = s.busState := rfl
@[simp] theorem State.setA_params (s : State) (v : Byte) : (s.setA v).params = s.params := rfl
@[simp] theorem State.setA_env (s : State) (v : Byte) : (s.setA v).env = s.env := rfl
@[simp] theorem State.setA_freeCount (s : State) (v : Byte) : (s.setA v).freeCount = s.freeCount := rfl
@[simp] theorem State.setA_out (s : State) (v : Byte) : (s.setA v).out = s.out := rfl

@[simp] theorem State.setB_a (s : State) (v : Byte) : (s.setB v).a = s.a := rfl
@[simp] theorem State.setB_b (s : State) (v : Byte) : (s.setB v).b = v := rfl
@[simp] theorem State.setB_c (s : State) (v : Byte) : (s.setB v).c = s.c := rfl
@[simp] theorem State.setB_d (s : State) (v : Byte) : (s.setB v).d = s.d := rfl
@[simp] theorem State.setB_e (s : State) (v : Byte) : (s.setB v).e = s.e := rfl
@[simp] theorem State.setB_h (s : State) (v : Byte) : (s.setB v).h = s.h := rfl
@[simp] theorem State.setB_l (s : State) (v : Byte) : (s.setB v).l = s.l := rfl
@[simp] theorem State.setB_f (s : State) (v : Byte) : (s.setB v).f = s.f := rfl
@[simp] theorem State.setB_sp (s : State) (v : Byte) : (s.setB v).sp = s.sp := rfl
@[simp] theorem State.setB_pc (s : State) (v : Byte) : (s.setB v).pc = s.pc := rfl
@[simp] theorem State.setB_ime (s : State) (v : Byte) : (s.setB v).ime = s.ime := rfl
@[simp] theorem State.setB_halted (s : State) (v : Byte) : (s.setB v).halted = s.halted := rfl
@[simp] theorem State.setB_haltbug (s : State) (v : Byte) : (s.setB v).haltbug = s.haltbug := rfl
@[simp] theorem State.setB_addcyc (s : State) (v : Byte) : (s.setB v).addcyc = s.addcyc := rfl
@[simp] theorem State.setB_busState (s : State) (v : Byte) : (s.setB v).busState = s.busState := rfl
@[simp] theorem State.setB_params (s : State) (v : Byte) : (s.setB v).params = s.params := rfl
@[simp] theorem State.setB_env (s : State) (v : Byte) : (s.setB v).env = s.env := rfl
@[simp] theorem State.setB_freeCount (s : State) (v : Byte) : (s.setB v).freeCount = s.freeCount := rfl
@[simp] theorem State.setB_out (s : State) (v : Byte) : (s.setB v).out = s.out := rfl

@[simp] theorem State.setC_a (s : State) (v : Byte) : (s.setC v).a = s.a := rfl
@[simp] theorem State.setC_b (s : State) (v : Byte) : (s.setC v).b = s.b := rfl
@[simp] theorem State.setC_c (s : State) (v : Byte) : (s.setC v).c = v := rfl
@[simp] theorem State.setC_d (s : State) (v : Byte) : (s.setC v).d = s.d := rfl
@[simp] theorem State.setC_e (s : State) (v : Byte) : (s.setC v).e = s.e := rfl
@[simp] theorem State.setC_h (s : State) (v : Byte) : (s.setC v).h = s.h := rfl
@[simp] theorem State.setC_l (s : State) (v : Byte) : (s.setC v).l = s.l := rfl
@[simp] theorem State.setC_f (s : State) (v : Byte) : (s.setC v).f = s.f := rfl
@[simp] theorem State.setC_sp (s : State) (v : Byte) : (s.setC v).sp = s.sp := rfl
@[simp] theorem State.setC_pc (s : State) (v : Byte) : (s.setC v).pc = s.pc := rfl
@[simp] theorem State.setC_ime (s : State) (v : Byte) : (s.setC v).ime = s.ime := rfl
@[simp] theorem State.setC_halted (s : State) (v : Byte) : (s.setC v).halted = s.halted := rfl
@[simp] theorem State.setC_haltbug (s : State) (v : Byte) : (s.setC v).haltbug = s.haltbug := rfl
@[simp] theorem State.setC_addcyc (s : State) (v : Byte) : (s.setC v).addcyc = s.addcyc := rfl
@[simp] theorem State.setC_busState (s : State) (v : Byte) : (s.setC v).busState = s.busState := rfl
@[simp] theorem State.setC_params (s : State) (v : Byte) : (s.setC v).params = s.params := rfl
@[simp] theorem State.setC_env (s : State) (v : Byte) : (s.setC v).env = s.env := rfl
@[simp] theorem State.setC_freeCount (s : State) (v : Byte) : (s.setC v).freeCount = s.freeCount := rfl
@[simp] theorem State.setC_out (s : State) (v : Byte) : (s.setC v).out = s.out := rfl

@[simp] theorem State.setD_a (s : State) (v : Byte) : (s.setD v).a = s.a := rfl
@[simp] theorem State.setD_b (s : State) (v : Byte) : (s.setD v).b = s.b := rfl
@[simp] theorem State.setD_c (s : State) (v : Byte) : (s.setD v).c = s.c := rfl
@[simp] theorem State.setD_d (s : State) (v : Byte) : (s.setD v).d = v := rfl
@[simp] theorem State.setD_e (s : State) (v : Byte) : (s.setD v).e = s.e := rfl
@[simp] theorem State.setD_h (s : State) (v : Byte) : (s.setD v).h = s.h := rfl
@[simp] theorem State.setD_l (s : State) (v : Byte) : (s.setD v).l = s.l := rfl
@[simp] theorem State.setD_f (s : State) (v : Byte) : (s.setD v).f = s.f := rfl
@[simp] theorem State.setD_sp (s : State) (v : Byte) : (s.setD v).sp = s.sp := rfl
@[simp] theorem State.setD_pc (s : State) (v : Byte) : (s.setD v).pc = s.pc := rfl
@[simp] theorem State.setD_ime (s : State) (v : Byte) : (s.setD v).ime = s.ime := rfl
@[simp] theorem State.setD_halted (s : State) (v : Byte) : (s.setD v).halted = s.halted := rfl
@[simp] theorem State.setD_haltbug (s : State) (v : Byte) : (s.setD v).haltbug = s.haltbug := rfl
@[simp] theorem State.setD_addcyc (s : State) (v : Byte) : (s.setD v).addcyc = s.addcyc := rfl
@[simp] theorem State.setD_busState (s : State) (v : Byte) : (s.setD v).busState = s.busState := rfl
@[simp] theorem State.setD_params (s : State) (v : Byte) : (s.setD v).params = s.params := rfl
@[simp] theorem State.setD_env (s : State) (v : Byte) : (s.setD v).env = s.env := rfl
@[simp] theorem State.setD_freeCount (s : State) (v : Byte) : (s.setD v).freeCount = s.freeCount := rfl
@[simp] theorem State.setD_out (s : State) (v : Byte) : (s.setD v).out = s.out := rfl

@[simp] theorem State.setE_a (s : State) (v : Byte) : (s.setE v).a = s.a := rfl
@[simp] theorem State.setE_b (s : State) (v : Byte) : (s.setE v).b = s.b := rfl
@[simp] theorem State.setE_c (s : State) (v : Byte) : (s.setE v).c = s.c := rfl
@[simp] theorem State.setE_d (s : State) (v : Byte) : (s.setE v).d = s.d := rfl
@[simp] theorem State.setE_e (s : State) (v : Byte) : (s.setE v).e = v := rfl
@[simp] theorem State.setE_h (s : State) (v : Byte) : (s.setE v).h = s.h := rfl
@[simp] theorem State.setE_l (s : State) (v : Byte) : (s.setE v).l = s.l := rfl
@[simp] theorem State.setE_f (s : State) (v : Byte) : (s.setE v).f = s.f := rfl
@[simp] theorem State.setE_sp (s : State) (v : Byte) : (s.setE v).sp = s.sp := rfl
@[simp] theorem State.setE_pc (s : State) (v : Byte) : (s.setE v).pc = s.pc := rfl
@[simp] theorem State.setE_ime (s : State) (v : Byte) : (s.setE v).ime = s.ime := rfl
@[simp] theorem State.setE_halted (s : State) (v : Byte) : (s.setE v).halted = s.halted := rfl
@[simp] theorem State.setE_haltbug (s : State) (v : Byte) : (s.setE v).haltbug = s.haltbug := rfl
@[simp] theorem State.setE_addcyc (s : State) (v : Byte) : (s.setE v).addcyc = s.addcyc := rfl
@[simp] theorem State.setE_busState (s : State) (v : Byte) : (s.setE v).busState = s.busState := rfl
@[simp] theorem State.setE_params (s : State) (v : Byte) : (s.setE v).params = s.params := rfl
@[simp] theorem State.setE_env (s : State) (v : Byte) : (s.setE v).env = s.env := rfl
@[simp] theorem State.setE_freeCount (s : State) (v : Byte) : (s.setE v).freeCount = s.freeCount := rfl
@[simp] theorem State.setE_out (s : State) (v : Byte) : (s.setE v).out = s.out := rfl

@[simp] theorem State.setH_a (s : State) (v : Byte) : (s.setH v).a = s.a := rfl
@[simp] theorem State.setH_b (s : State) (v : Byte) : (s.setH v).b = s.b := rfl
@[simp] theorem State.setH_c (s : State) (v : Byte) : (s.setH v).c = s.c := rfl
@[simp] theorem State.setH_d (s : State) (v : Byte) : (s.setH v).d = s.d := rfl
@[simp] theorem State.setH_e (s : State) (v : Byte) : (s.setH v).e = s.e := rfl
@[simp] theorem State.setH_h (s : State) (v : Byte) : (s.setH v).h = v := rfl
@[simp] theorem State.setH_l (s : State) (v : Byte) : (s.setH v).l = s.l := rfl
@[simp] theorem State.setH_f (s : State) (v : Byte) : (s.setH v).f = s.f := rfl
@[simp] theorem State.setH_sp (s : State) (v : Byte) : (s.setH v).sp = s.sp := rfl
@[simp] theorem State.setH_pc (s : State) (v : Byte) : (s.setH v).pc = s.pc := rfl
@[simp] theorem State.setH_ime (s : State) (v : Byte) : (s.setH v).ime = s.ime := rfl
@[simp] theorem State.setH_halted (s : State) (v : Byte) : (s.setH v).halted = s.halted := rfl
@[simp] theorem State.setH_haltbug (s : State) (v : Byte) : (s.setH v).haltbug = s.haltbug := rfl
@[simp] theorem State.setH_addcyc (s : State) (v : Byte) : (s.setH v).addcyc = s.addcyc := rfl
@[simp] theorem State.setH_busState (s : State) (v : Byte) : (s.setH v).busState = s.busState := rfl
@[simp] theorem State.setH_params (s : State) (v : Byte) : (s.setH v).params = s.params := rfl
@[simp] theorem State.setH_env (s : State) (v : Byte) : (s.setH v).env = s.env := rfl
@[simp] theorem State.setH_freeCount (s : State) (v : Byte) : (s.setH v).freeCount = s.freeCount := rfl
@[simp] theorem State.setH_out (s : State) (v : Byte) : (s.setH v).out = s.out := rfl

@[simp] theorem State.setL_a (s : State) (v : Byte) : (s.setL v).a = s.a := rfl
@[simp] theorem State.setL_b (s : State) (v : Byte) : (s.setL v).b = s.b := rfl
@[simp] theorem State.setL_c (s : State) (v : Byte) : (s.setL v).c = s.c := rfl
@[simp] theorem State.setL_d (s : State) (v : Byte) : (s.setL v).d = s.d := rfl
@[simp] theorem State.setL_e (s : State) (v : Byte) : (s.setL v).e = s.e := rfl
@[simp] theorem State.setL_h (s : State) (v : Byte) : (s.setL v).h = s.h := rfl
@[simp] theorem State.setL_l (s : State) (v : Byte) : (s.setL v).l = v := rfl
@[simp] theorem State.setL_f (s : State) (v : Byte) : (s.setL v).f = s.f := rfl
@[simp] theorem State.setL_sp (s : State) (v : Byte) : (s.setL v).sp = s.sp := rfl
@[simp] theorem State.setL_pc (s : State) (v : Byte) : (s.setL v).pc = s.pc := rfl
@[simp] theorem State.setL_ime (s : State) (v : Byte) : (s.setL v).ime = s.ime := rfl
@[simp] theorem State.setL_halted (s : State) (v : Byte) : (s.setL v).halted = s.halted := rfl
@[simp] theorem State.setL_haltbug (s : State) (v : Byte) : (s.setL v).haltbug = s.haltbug := rfl
@[simp] theorem State.setL_addcyc (s : State) (v : Byte) : (s.setL v).addcyc = s.addcyc := rfl
@[simp] theorem State.setL_busState (s : State) (v : Byte) : (s.setL v).busState = s.busState := rfl
@[simp] theorem State.setL_params (s : State) (v : Byte) : (s.setL v).params = s.params := rfl
@[simp] theorem State.setL_env (s : State) (v : Byte) : (s.setL v).env = s.env := rfl
@[simp] theorem State.setL_freeCount (s : State) (v : Byte) : (s.setL v).freeCount = s.freeCount := rfl
@[simp] theorem State.setL_out (s : State) (v : Byte) : (s.setL v).out = s.out := rfl

@[simp] theorem State.setSp_a (s : State) (v : Word) : (s.setSp v).a = s.a := rfl
@[simp] theorem State.setSp_b (s : State) (v : Word) : (s.setSp v).b = s.b := rfl
@[simp] theorem State.setSp_c (s : State) (v : Word) : (s.setSp v).c = s.c := rfl
@[simp] theorem State.setSp_d (s : State) (v : Word) : (s.setSp v).d = s.d := rfl
@[simp] theorem State.setSp_e (s : State) (v : Word) : (s.setSp v).e = s.e := rfl
@[simp] theorem State.setSp_h (s : State) (v : Word) : (s.setSp v).h = s.h := rfl
@[simp] theorem State.setSp_l (s : State) (v : Word) : (s.setSp v).l = s.l := rfl
@[simp] theorem State.setSp_f (s : State) (v : Word) : (s.setSp v).f = s.f := rfl
@[simp] theorem State.setSp_sp (s : State) (v : Word) : (s.setSp v).sp = v := rfl
@[simp] theorem State.setSp_pc (s : State) (v : Word) : (s.setSp v).pc = s.pc := rfl
@[simp] theorem State.setSp_ime (s : State) (v : Word) : (s.setSp v).ime = s.ime := rfl
@[simp] theorem State.setSp_halted (s : State) (v : Word) : (s.setSp v).halted = s.halted := rfl
@[simp] theorem State.setSp_haltbug (s : State) (v : Word) : (s.setSp v).haltbug = s.haltbug := rfl
@[simp] theorem State.setSp_addcyc (s : State) (v : Word) : (s.setSp v).addcyc = s.addcyc := rfl
@[simp] theorem State.setSp_busState (s : State) (v : Word) : (s.setSp v).busState = s.busState := rfl
@[simp] theorem State.setSp_params (s : State) (v : Word) : (s.setSp v).params = s.params := rfl
@[simp] theorem State.setSp_env (s : State) (v : Word) : (s.setSp v).env = s.env := rfl
@[simp] theorem State.setSp_freeCount (s : State) (v : Word) : (s.setSp v).freeCount = s.freeCount := rfl
@[simp] theorem State.setSp_out (s : State) (v : Word) : (s.setSp v).out = s.out := rfl

@[simp] theorem State.setPc_a (s : State) (v : Word) : (s.setPc v).a = s.a := rfl
@[simp] theorem State.setPc_b (s : State) (v : Word) : (s.setPc v).b = s.b := rfl
@[simp] theorem State.setPc_c (s : State) (v : Word) : (s.setPc v).c = s.c := rfl
@[simp] theorem State.setPc_d (s : State) (v : Word) : (s.setPc v).d = s.d := rfl
@[simp] theorem State.setPc_e (s : State) (v : Word) : (s.setPc v).e = s.e := rfl
@[simp] theorem State.setPc_h (s : State) (v : Word) : (s.setPc v).h = s.h := rfl
@[simp] theorem State.setPc_l (s : State) (v : Word) : (s.setPc v).l = s.l := rfl
@[simp] theorem State.setPc_f (s : State) (v : Word) : (s.setPc v).f = s.f := rfl
@[simp] theorem State.setPc_sp (s : State) (v : Word) : (s.setPc v).sp = s.sp := rfl
@[simp] theorem State.setPc_pc (s : State) (v : Word) : (s.setPc v).pc = v := rfl
@[simp] theorem State.setPc_ime (s : State) (v : Word) : (s.setPc v).ime = s.ime := rfl
@[simp] theorem State.setPc_halted (s : State) (v : Word) : (s.setPc v).halted = s.halted := rfl
@[simp] theorem State.setPc_haltbug (s : State) (v : Word) : (s.setPc v).haltbug = s.haltbug := rfl
@[simp] theorem State.setPc_addcyc (s : State) (v : Word) : (s.setPc v).addcyc = s.addcyc := rfl
@[simp] theorem State.setPc_busState (s : State) (v : Word) : (s.setPc v).busState = s.busState := rfl
@[simp] theorem State.setPc_params (s : State) (v : Word) : (s.setPc v).params = s.params := rfl
@[simp] theorem State.setPc_env (s : State) (v : Word) : (s.setPc v).env = s.env := rfl
@[simp] theorem State.setPc_freeCount (s : State) (v : Word) : (s.setPc v).freeCount = s.freeCount := rfl
@[simp] theorem State.setPc_out (s : State) (v : Word) : (s.setPc v).out = s.out := rfl

@[simp] theorem State.setIme_a (s : State) (v : Bool) : (s.setIme v).a = s.a := rfl
@[simp] theorem State.setIme_b (s : State) (v : Bool) : (s.setIme v).b = s.b := rfl
@[simp] theorem State.setIme_c (s : State) (v : Bool) : (s.setIme v).c = s.c := rfl
@[simp] theorem State.setIme_d (s : State) (v : Bool) : (s.setIme v).d = s.d := rfl
@[simp] theorem State.setIme_e (s : State) (v : Bool) : (s.setIme v).e = s.e := rfl
@[simp] theorem State.setIme_h (s : State) (v : Bool) : (s.setIme v).h = s.h := rfl
@[simp] theorem State.setIme_l (s : State) (v : Bool) : (s.setIme v).l = s.l := rfl
@[simp] theorem State.setIme_f (s : State) (v : Bool) : (s.setIme v).f = s.f := rfl
@[simp] theorem State.setIme_sp (s : State) (v : Bool) : (s.setIme v).sp = s.sp := rfl
@[simp] theorem State.setIme_pc (s : State) (v : Bool) : (s.setIme v).pc = s.pc := rfl
@[simp] theorem State.setIme_ime (s : State) (v : Bool) : (s.setIme v).ime = v := rfl
@[simp] theorem State.setIme_halted (s : State) (v : Bool) : (s.setIme v).halted = s.halted := rfl
@[simp] theorem State.setIme_haltbug (s : State) (v : Bool) : (s.setIme v).haltbug = s.haltbug := rfl
@[simp] theorem State.setIme_addcyc (s : State) (v : Bool) : (s.setIme v).addcyc = s.addcyc := rfl
@[simp] theorem State.setIme_busState (s : State) (v : Bool) : (s.setIme v).busState = s.busState := rfl
@[simp] theorem State.setIme_params (s : State) (v : Bool) : (s.setIme v).params = s.params := rfl
@[simp] theorem State.setIme_env (s : State) (v : Bool) : (s.setIme v).env = s.env := rfl
@[simp] theorem State.setIme_freeCount (s : State) (v : Bool) : (s.setIme v).freeCount = s.freeCount := rfl
@[simp] theorem State.setIme_out (s : State) (v : Bool) : (s.setIme v).out = s.out := rfl

@[simp] theorem State.setHalted_a (s : State) (v : Bool) : (s.setHalted v).a = s.a := rfl
@[simp] theorem State.setHalted_b (s : State) (v : Bool) : (s.setHalted v).b = s.b := rfl
@[simp] theorem State.setHalted_c (s : State) (v : Bool) : (s.setHalted v).c = s.c := rfl
@[simp] theorem State.setHalted_d (s : State) (v : Bool) : (s.setHalted v).d = s.d := rfl
@[simp] theorem State.setHalted_e (s : State) (v : Bool) : (s.setHalted v).e = s.e := rfl
@[simp] theorem State.setHalted_h (s : State) (v : Bool) : (s.setHalted v).h = s.h := rfl
@[simp] theorem State.setHalted_l (s : State) (v : Bool) : (s.setHalted v).l = s.l := rfl
@[simp] theorem State.setHalted_f (s : State) (v : Bool) : (s.setHalted v).f = s.f := rfl
@[simp] theorem State.setHalted_sp (s : State) (v : Bool) : (s.setHalted v).sp = s.sp := rfl
@[simp] theorem State.setHalted_pc (s : State) (v : Bool) : (s.setHalted v).pc = s.pc := rfl
@[simp] theorem State.setHalted_ime (s : State) (v : Bool) : (s.setHalted v).ime = s.ime := rfl
@[simp] theorem State.setHalted_halted (s : State) (v : Bool) : (s.setHalted v).halted = v := rfl
@[simp] theorem State.setHalted_haltbug (s : State) (v : Bool) : (s.setHalted v).haltbug = s.haltbug := rfl
@[simp] theorem State.setHalted_addcyc (s : State) (v : Bool) : (s.setHalted v).addcyc = s.addcyc := rfl
@[simp] theorem State.setHalted_busState (s : State) (v : Bool) : (s.setHalted v).busState = s.busState := rfl
@[simp] theorem State.setHalted_params (s : State) (v : Bool) : (s.setHalted v).params = s.params := rfl
@[simp] theorem State.setHalted_env (s : State) (v : Bool) : (s.setHalted v).env = s.env := rfl
@[simp] theorem State.setHalted_freeCount (s : State) (v : Bool) : (s.setHalted v).freeCount = s.freeCount := rfl
@[simp] theorem State.setHalted_out (s : State) (v : Bool) : (s.setHalted v).out = s.out := rfl

@[simp] theorem State.setHaltbug_a (s : State) (v : Bool) : (s.setHaltbug v).a = s.a := rfl
@[simp] theorem State.setHaltbug_b (s : State) (v : Bool) : (s.setHaltbug v).b = s.b := rfl
@[simp] theorem State.setHaltbug_c (s : State) (v : Bool) : (s.setHaltbug v).c = s.c := rfl
@[simp] theorem State.setHaltbug_d (s : State) (v : Bool) : (s.setHaltbug v).d = s.d := rfl
@[simp] theorem State.setHaltbug_e (s : State) (v : Bool) : (s.setHaltbug v).e = s.e := rfl
@[simp] theorem State.setHaltbug_h (s : State) (v : Bool) : (s.setHaltbug v).h = s.h := rfl
@[simp] theorem State.setHaltbug_l (s : State) (v : Bool) : (s.setHaltbug v).l = s.l := rfl
@[simp] theorem State.setHaltbug_f (s : State) (v : Bool) : (s.setHaltbug v).f = s.f := rfl
@[simp] theorem State.setHaltbug_sp (s : State) (v : Bool) : (s.setHaltbug v).sp = s.sp := rfl
@[simp] theorem State.setHaltbug_pc (s : State) (v : Bool) : (s.setHaltbug v).pc = s.pc := rfl
@[simp] theorem State.setHaltbug_ime (s : State) (v : Bool) : (s.setHaltbug v).ime = s.ime := rfl
@[simp] theorem State.setHaltbug_halted (s : State) (v : Bool) : (s.setHaltbug v).halted = s.halted := rfl
@[simp] theorem State.setHaltbug_haltbug (s : State) (v : Bool) : (s.setHaltbug v).haltbug = v := rfl
@[simp] theorem State.setHaltbug_addcyc (s : State) (v : Bool) : (s.setHaltbug v).addcyc = s.addcyc := rfl
@[simp] theorem State.setHaltbug_busState (s : State) (v : Bool) : (s.setHaltbug v).busState = s.busState := rfl
@[simp] theorem State.setHaltbug_params (s : State) (v : Bool) : (s.setHaltbug v).params = s.params := rfl
@[simp] theorem State.setHaltbug_env (s : State) (v : Bool) : (s.setHaltbug v).env = s.env := rfl
@[simp] theorem State.setHaltbug_freeCount (s : State) (v : Bool) : (s.setHaltbug v).freeCount = s.freeCount := rfl
@[simp] theorem State.setHaltbug_out (s : State) (v : Bool) : (s.setHaltbug v).out = s.out := rfl

@[simp] theorem State.setAddcyc_a (s : State) (v : Nat) : (s.setAddcyc v).a = s.a := rfl
@[simp] theorem State.setAddcyc_b (s : State) (v : Nat) : (s.setAddcyc v).b = s.b := rfl
@[simp] theorem State.setAddcyc_c (s : State) (v : Nat) : (s.setAddcyc v).c = s.c := rfl
@[simp] theorem State.setAddcyc_d (s : State) (v : Nat) : (s.setAddcyc v).d = s.d := rfl
@[simp] theorem State.setAddcyc_e (s : State) (v : Nat) : (s.setAddcyc v).e = s.e := rfl
@[simp] theorem State.setAddcyc_h (s : State) (v : Nat) : (s.setAddcyc v).h = s.h := rfl
@[simp] theorem State.setAddcyc_l (s : State) (v : Nat) : (s.setAddcyc v).l = s.l := rfl
@[simp] theorem State.setAddcyc_f (s : State) (v : Nat) : (s.setAddcyc v).f = s.f := rfl
@[simp] theorem State.setAddcyc_sp (s : State) (v : Nat) : (s.setAddcyc v).sp = s.sp := rfl
@[simp] theorem State.setAddcyc_pc (s : State) (v : Nat) : (s.setAddcyc v).pc = s.pc := rfl
@[simp] theorem State.setAddcyc_ime (s : State) (v : Nat) : (s.setAddcyc v).ime = s.ime := rfl
@[simp] theorem State.setAddcyc_halted (s : State) (v : Nat) : (s.setAddcyc v).halted = s.halted := rfl
@[simp] theorem State.setAddcyc_haltbug (s : State) (v : Nat) : (s.setAddcyc v).haltbug = s.haltbug := rfl
@[simp] theorem State.setAddcyc_addcyc (s : State) (v : Nat) : (s.setAddcyc v).addcyc = v := rfl
@[simp] theorem State.setAddcyc_busState (s : State) (v : Nat) : (s.setAddcyc v).busState = s.busState := rfl
@[simp] theorem State.setAddcyc_params (s : State) (v : Nat) : (s.setAddcyc v).params = s.params := rfl
@[simp] theorem State.setAddcyc_env (s : State) (v : Nat) : (s.setAddcyc v).env = s.env := rfl
@[simp] theorem State.setAddcyc_freeCount (s : State) (v : Nat) : (s.setAddcyc v).freeCount = s.freeCount := rfl
@[simp] theorem State.setAddcyc_out (s : State) (v : Nat) : (s.setAddcyc v).out = s.out := rfl

@[simp] theorem State.setBusState_a (s : State) (v : Bus) : (s.setBusState v).a = s.a := rfl
@[simp] theorem State.setBusState_b (s : State) (v : Bus) : (s.setBusState v).b = s.b := rfl
@[simp] theorem State.setBusState_c (s : State) (v : Bus) : (s.setBusState v).c = s.c := rfl
@[simp] theorem State.setBusState_d (s : State) (v : Bus) : (s.setBusState v).d = s.d := rfl
@[simp] theorem State.setBusState_e (s : State) (v : Bus) : (s.setBusState v).e = s.e := rfl
@[simp] theorem State.setBusState_h (s : State) (v : Bus) : (s.setBusState v).h = s.h := rfl
@[simp] theorem State.setBusState_l (s : State) (v : Bus) : (s.setBusState v).l = s.l := rfl
@[simp] theorem State.setBusState_f (s : State) (v : Bus) : (s.setBusState v).f = s.f := rfl
@[simp] theorem State.setBusState_sp (s : State) (v : Bus) : (s.setBusState v).sp = s.sp := rfl
@[simp] theorem State.setBusState_pc (s : State) (v : Bus) : (s.setBusState v).pc = s.pc := rfl
@[simp] theorem State.setBusState_ime (s : State) (v : Bus) : (s.setBusState v).ime = s.ime := rfl
@[simp] theorem State.setBusState_halted (s : State) (v : Bus) : (s.setBusState v).halted = s.halted := rfl
@[simp] theorem State.setBusState_haltbug (s : State) (v : Bus) : (s.setBusState v).haltbug = s.haltbug := rfl
@[simp] theorem State.setBusState_addcyc (s : State) (v : Bus) : (s.setBusState v).addcyc = s.addcyc := rfl
@[simp] theorem State.setBusState_busState (s : State) (v : Bus) : (s.setBusState v).busState = v := rfl
@[simp] theorem State.setBusState_params (s : State) (v : Bus) : (s.setBusState v).params = s.params := rfl
@[simp] theorem State.setBusState_env (s : State) (v : Bus) : (s.setBusState v).env = s.env := rfl
@[simp] theorem State.setBusState_freeCount (s : State) (v : Bus) : (s.setBusState v).freeCount = s.freeCount := rfl
@[simp] theorem State.setBusState_out (s : State) (v : Bus) : (s.setBusState v).out = s.out := rfl

@[simp] theorem State.setEnv_a (s : State) (v : List (List EnvEvent)) : (s.setEnv v).a = s.a := rfl
@[simp] theorem State.setEnv_b (s : State) (v : List (List EnvEvent)) : (s.setEnv v).b = s.b := rfl
@[simp] theorem State.setEnv_c (s : State) (v : List (List EnvEvent)) : (s.setEnv v).c = s.c := rfl
@[simp] theorem State.setEnv_d (s : State) (v : List (List EnvEvent)) : (s.setEnv v).d = s.d := rfl
@[simp] theorem State.setEnv_e (s : State) (v : List (List EnvEvent)) : (s.setEnv v).e = s.e := rfl
@[simp] theorem State.setEnv_h (s : State) (v : List (List EnvEvent)) : (s.setEnv v).h = s.h := rfl
@[simp] theorem State.setEnv_l (s : State) (v : List (List EnvEvent)) : (s.setEnv v).l = s.l := rfl
@[simp] theorem State.setEnv_f (s : State) (v : List (List EnvEvent)) : (s.setEnv v).f = s.f := rfl
@[simp] theorem State.setEnv_sp (s : State) (v : List (List EnvEvent)) : (s.setEnv v).sp = s.sp := rfl
@[simp] theorem State.setEnv_pc (s : State) (v : List (List EnvEvent)) : (s.setEnv v).pc = s.pc := rfl
@[simp] theorem State.setEnv_ime (s : State) (v : List (List EnvEvent)) : (s.setEnv v).ime = s.ime := rfl
@[simp] theorem State.setEnv_halted (s : State) (v : List (List EnvEvent)) : (s.setEnv v).halted = s.halted := rfl
@[simp] theorem State.setEnv_haltbug (s : State) (v : List (List EnvEvent)) : (s.setEnv v).haltbug = s.haltbug := rfl
@[simp] theorem State.setEnv_addcyc (s : State) (v : List (List EnvEvent)) : (s.setEnv v).addcyc = s.addcyc := rfl
@[simp] theorem State.setEnv_busState (s : State) (v : List (List EnvEvent)) : (s.setEnv v).busState = s.busState := rfl
@[simp] theorem State.setEnv_params (s : State) (v : List (List EnvEvent)) : (s.setEnv v).params = s.params := rfl
@[simp] theorem State.setEnv_env (s : State) (v : List (List EnvEvent)) : (s.setEnv v).env = v := rfl
@[simp] theorem State.setEnv_freeCount (s : State) (v : List (List EnvEvent)) : (s.setEnv v).freeCount = s.freeCount := rfl
@[simp] theorem State.setEnv_out (s : State) (v : List (List EnvEvent)) : (s.setEnv v).out = s.out := rfl

@[simp] theorem State.setOut_a (s : State) (v : Output) : (s.setOut v).a = s.a := rfl
@[simp] theorem State.setOut_b (s : State) (v : Output) : (s.setOut v).b = s.b := rfl
@[simp] theorem State.setOut_c (s : State) (v : Output) : (s.setOut v).c = s.c := rfl
@[simp] theorem State.setOut_d (s : State) (v : Output) : (s.setOut v).d = s.d := rfl
@[simp] theorem State.setOut_e (s : State) (v : Output) : (s.setOut v).e = s.e := rfl
@[simp] theorem State.setOut_h (s : State) (v : Output) : (s.setOut v).h = s.h := rfl
@[simp] theorem State.setOut_l (s : State) (v : Output) : (s.setOut v).l = s.l := rfl
@[simp] theorem State.setOut_f (s : State) (v : Output) : (s.setOut v).f = s.f := rfl
@[simp] theorem State.setOut_sp (s : State) (v : Output) : (s.setOut v).sp = s.sp := rfl
@[simp] theorem State.setOut_pc (s : State) (v : Output) : (s.setOut v).pc = s.pc := rfl
@[simp] theorem State.setOut_ime (s : State) (v : Output) : (s.setOut v).ime = s.ime := rfl
@[simp] theorem State.setOut_halted (s : State) (v : Output) : (s.setOut v).halted = s.halted := rfl
@[simp] theorem State.setOut_haltbug (s : State) (v : Output) : (s.setOut v).haltbug = s.haltbug := rfl
@[simp] theorem State.setOut_addcyc (s : State) (v : Output) : (s.setOut v).addcyc = s.addcyc := rfl
@[simp] theorem State.setOut_busState (s : State) (v : Output) : (s.setOut v).busState = s.busState := rfl
@[simp] theorem State.setOut_params (s : State) (v : Output) : (s.setOut v).params = s.params := rfl
@[simp] theorem State.setOut_env (s : State) (v : Output) : (s.setOut v).env = s.env := rfl
@[simp] theorem State.setOut_freeCount (s : State) (v : Output) : (s.setOut v).freeCount = s.freeCount := rfl
@[simp] theorem State.setOut_out (s : State) (v : Output) : (s.setOut v).out = v := rfl

@[simp] theorem State.setF_a (s : State) (v : Byte) : (s.setF v).a = s.a := rfl
@[simp] theorem State.setF_b (s : State) (v : Byte) : (s.setF v).b = s.b := rfl
@[simp] theorem State.setF_c (s : State) (v : Byte) : (s.setF v).c = s.c := rfl
@[simp] theorem State.setF_d (s : State) (v : Byte) : (s.setF v).d = s.d := rfl
@[simp] theorem State.setF_e (s : State) (v : Byte) : (s.setF v).e = s.e := rfl
@[simp] theorem State.setF_h (s : State) (v : Byte) : (s.setF v).h = s.h := rfl
@[simp] theorem State.setF_l (s : State) (v : Byte) : (s.setF v).l = s.l := rfl
@[simp] theorem State.setF_f (s : State) (v : Byte) : (s.setF v).f = v &&& 0xF0 := rfl
@[simp] theorem State.setF_sp (s : State) (v : Byte) : (s.setF v).sp = s.sp := rfl
@[simp] theorem State.setF_pc (s : State) (v : Byte) : (s.setF v).pc = s.pc := rfl
@[simp] theorem State.setF_ime (s : State) (v : Byte) : (s.setF v).ime = s.ime := rfl
@[simp] theorem State.setF_halted (s : State) (v : Byte) : (s.setF v).halted = s.halted := rfl
@[simp] theorem State.setF_haltbug (s : State) (v : Byte) : (s.setF v).haltbug = s.haltbug := rfl
@[simp] theorem State.setF_addcyc (s : State) (v : Byte) : (s.setF v).addcyc = s.addcyc := rfl
@[simp] theorem State.setF_busState (s : State) (v : Byte) : (s.setF v).busState = s.busState := rfl
@[simp] theorem State.setF_params (s : State) (v : Byte) : (s.setF v).params = s.params := rfl
@[simp] theorem State.setF_env (s : State) (v : Byte) : (s.setF v).env = s.env := rfl
@[simp] theorem State.setF_freeCount (s : State) (v : Byte) : (s.setF v).freeCount = s.freeCount := rfl
@[simp] theorem State.setF_out (s : State) (v : Byte) : (s.setF v).out = s.out := rfl

@[simp] theorem State.withFlags_a (s : State) (z n h c : Bool) : (s.withFlags z n h c).a = s.a := rfl
@[simp] theorem State.withFlags_b (s : State) (z n h c : Bool) : (s.withFlags z n h c).b = s.b := rfl
@[simp] theorem State.withFlags_c (s : State) (z n h c : Bool) : (s.withFlags z n h c).c = s.c := rfl
@[simp] theorem State.withFlags_d (s : State) (z n h c : Bool) : (s.withFlags z n h c).d = s.d := rfl
@[simp] theorem State.withFlags_e (s : State) (z n h c : Bool) : (s.withFlags z n h c).e = s.e := rfl
@[simp] theorem State.withFlags_h (s : State) (z n h c : Bool) : (s.withFlags z n h c).h = s.h := rfl
@[simp] theorem State.withFlags_l (s : State) (z n h c : Bool) : (s.withFlags z n h c).l = s.l := rfl
@[simp] theorem State.withFlags_f (s : State) (z n h c : Bool) : (s.withFlags z n h c).f = packFlags z n h c &&& 0xF0 := rfl
@[simp] theorem State.withFlags_sp (s : State) (z n h c : Bool) : (s.withFlags z n h c).sp = s.sp := rfl
@[simp] theorem State.withFlags_pc (s : State) (z n h c : Bool) : (s.withFlags z n h c).pc = s.pc := rfl
@[simp] theorem State.withFlags_ime (s : State) (z n h c : Bool) : (s.withFlags z n h c).ime = s.ime := rfl
@[simp] theorem State.withFlags_halted (s : State) (z n h c : Bool) : (s.withFlags z n h c).halted = s.halted := rfl
@[simp] theorem State.withFlags_haltbug (s : State) (z n h c : Bool) : (s.withFlags z n h c).haltbug = s.haltbug := rfl
@[simp] theorem State.withFlags_addcyc (s : State) (z n h c : Bool) : (s.withFlags z n h c).addcyc = s.addcyc := rfl
@[simp] theorem State.withFlags_busState (s : State) (z n h c : Bool) : (s.withFlags z n h c).busState = s.busState := rfl
@[simp] theorem State.withFlags_params (s : State) (z n h c : Bool) : (s.withFlags z n h c).params = s.params := rfl
@[simp] theorem State.withFlags_env (s : State) (z n h c : Bool) : (s.withFlags z n h c).env = s.env := rfl
@[simp] theorem State.withFlags_freeCount (s : State) (z n h c : Bool) : (s.withFlags z n h c).freeCount = s.freeCount := rfl
@[simp] theorem State.withFlags_out (s : State) (z n h c : Bool) : (s.withFlags z n h c).out = s.out := rfl

@[simp] theorem State.addCycles_a (s : State) (n : Nat) : (s.addCycles n).a = s.a := rfl
@[simp] theorem State.addCycles_b (s : State) (n : Nat) : (s.addCycles n).b = s.b := rfl
@[simp] theorem State.addCycles_c (s : State) (n : Nat) : (s.addCycles n).c = s.c := rfl
@[simp] theorem State.addCycles_d (s : State) (n : Nat) : (s.addCycles n).d = s.d := rfl
@[simp] theorem State.addCycles_e (s : State) (n : Nat) : (s.addCycles n).e = s.e := rfl
@[simp] theorem State.addCycles_h (s : State) (n : Nat) : (s.addCycles n).h = s.h := rfl
@[simp] theorem State.addCycles_l (s : State) (n : Nat) : (s.addCycles n).l = s.l := rfl
@[simp] theorem State.addCycles_f (s : State) (n : Nat) : (s.addCycles n).f = s.f := rfl
@[simp] theorem State.addCycles_sp (s : State) (n : Nat) : (s.addCycles n).sp = s.sp := rfl
@[simp] theorem State.addCycles_pc (s : State) (n : Nat) : (s.addCycles n).pc = s.pc := rfl
@[simp] theorem State.addCycles_ime (s : State) (n : Nat) : (s.addCycles n).ime = s.ime := rfl
@[simp] theorem State.addCycles_halted (s : State) (n : Nat) : (s.addCycles n).halted = s.halted := rfl
@[simp] theorem State.addCycles_haltbug (s : State) (n : Nat) : (s.addCycles n).haltbug = s.haltbug := rfl
@[simp] theorem State.addCycles_addcyc (s : State) (n : Nat) : (s.addCycles n).addcyc = s.addcyc + n := rfl
@[simp] theorem State.addCycles_busState (s : State) (n : Nat) : (s.addCycles n).busState = s.busState := rfl
@[simp] theorem State.addCycles_params (s : State) (n : Nat) : (s.addCycles n).params = s.params := rfl
@[simp] theorem State.addCycles_env (s : State) (n : Nat) : (s.addCycles n).env = s.env := rfl
@[simp] theorem State.addCycles_freeCount (s : State) (n : Nat) : (s.addCycles n).freeCount = s.freeCount := rfl
@[simp] theorem State.addCycles_out (s : State) (n : Nat) : (s.addCycles n).out = s.out := rfl

@[simp] theorem State.setBc_a (s : State) (w : Word) : (s.setBc w).a = s.a := rfl
@[simp] theorem State.setBc_b (s : State) (w : Word) : (s.setBc w).b = hi8 w := rfl
@[simp] theorem State.setBc_c (s : State) (w : Word) : (s.setBc w).c = lo8 w := rfl
@[simp] theorem State.setBc_d (s : State) (w : Word) : (s.setBc w).d = s.d := rfl
@[simp] theorem State.setBc_e (s : State) (w : Word) : (s.setBc w).e = s.e := rfl
@[simp] theorem State.setBc_h (s : State) (w : Word) : (s.setBc w).h = s.h := rfl
@[simp] theorem State.setBc_l (s : State) (w : Word) : (s.setBc w).l = s.l := rfl
@[simp] theorem State.setBc_f (s : State) (w : Word) : (s.setBc w).f = s.f := rfl
@[simp] theorem State.setBc_sp (s : State) (w : Word) : (s.setBc w).sp = s.sp := rfl
@[simp] theorem State.setBc_pc (s : State) (w : Word) : (s.setBc w).pc = s.pc := rfl
@[simp] theorem State.setBc_ime (s : State) (w : Word) : (s.setBc w).ime = s.ime := rfl
@[simp] theorem State.setBc_halted (s : State) (w : Word) : (s.setBc w).halted = s.halted := rfl
@[simp] theorem State.setBc_haltbug (s : State) (w : Word) : (s.setBc w).haltbug = s.haltbug := rfl
@[simp] theorem State.setBc_addcyc (s : State) (w : Word) : (s.setBc w).addcyc = s.addcyc := rfl
@[simp] theorem State.setBc_busState (s : State) (w : Word) : (s.setBc w).busState = s.busState := rfl
@[simp] theorem State.setBc_params (s : State) (w : Word) : (s.setBc w).params = s.params := rfl
@[simp] theorem State.setBc_env (s : State) (w : Word) : (s.setBc w).env = s.env := rfl
@[simp] theorem State.setBc_freeCount (s : State) (w : Word) : (s.setBc w).freeCount = s.freeCount := rfl
@[simp] theorem State.setBc_out (s : State) (w : Word) : (s.setBc w).out = s.out := rfl

@[simp] theorem State.setDe_a (s : State) (w : Word) : (s.setDe w).a = s.a := rfl
@[simp] theorem State.setDe_b (s : State) (w : Word) : (s.setDe w).b = s.b := rfl
@[simp] theorem State.setDe_c (s : State) (w : Word) : (s.setDe w).c = s.c := rfl
@[simp] theorem State.setDe_d (s : State) (w : Word) : (s.setDe w).d = hi8 w := rfl
@[simp] theorem State.setDe_e (s : State) (w : Word) : (s.setDe w).e = lo8 w := rfl
@[simp] theorem State.setDe_h (s : State) (w : Word) : (s.setDe w).h = s.h := rfl
@[simp] theorem State.setDe_l (s : State) (w : Word) : (s.setDe w).l = s.l := rfl
@[simp] theorem State.setDe_f (s : State) (w : Word) : (s.setDe w).f = s.f := rfl
@[simp] theorem State.setDe_sp (s : State) (w : Word) : (s.setDe w).sp = s.sp := rfl
@[simp] theorem State.setDe_pc (s : State) (w : Word) : (s.setDe w).pc = s.pc := rfl
@[simp] theorem State.setDe_ime (s : State) (w : Word) : (s.setDe w).ime = s.ime := rfl
@[simp] theorem State.setDe_halted (s : State) (w : Word) : (s.setDe w).halted = s.halted := rfl
@[simp] theorem State.setDe_haltbug (s : State) (w : Word) : (s.setDe w).haltbug = s.haltbug := rfl
@[simp] theorem State.setDe_addcyc (s : State) (w : Word) : (s.setDe w).addcyc = s.addcyc := rfl
@[simp] theorem State.setDe_busState (s : State) (w : Word) : (s.setDe w).busState = s.busState := rfl
@[simp] theorem State.setDe_params (s : State) (w : Word) : (s.setDe w).params = s.params := rfl
@[simp] theorem State.setDe_env (s : State) (w : Word) : (s.setDe w).env = s.env := rfl
@[simp] theorem State.setDe_freeCount (s : State) (w : Word) : (s.setDe w).freeCount = s.freeCount := rfl
@[simp] theorem State.setDe_out (s : State) (w : Word) : (s.setDe w).out = s.out := rfl

@[simp] theorem State.setHl_a (s : State) (w : Word) : (s.setHl w).a = s.a := rfl
@[simp] theorem State.setHl_b (s : State) (w : Word) : (s.setHl w).b = s.b := rfl
@[simp] theorem State.setHl_c (s : State) (w : Word) : (s.setHl w).c = s.c := rfl
@[simp] theorem State.setHl_d (s : State) (w : Word) : (s.setHl w).d = s.d := rfl
@[simp] theorem State.setHl_e (s : State) (w : Word) : (s.setHl w).e = s.e := rfl
@[simp] theorem State.setHl_h (s : State) (w : Word) : (s.setHl w).h = hi8 w := rfl
@[simp] theorem State.setHl_l (s : State) (w : Word) : (s.setHl w).l = lo8 w := rfl
@[simp] theorem State.setHl_f (s : State) (w : Word) : (s.setHl w).f = s.f := rfl
@[simp] theorem State.setHl_sp (s : State) (w : Word) : (s.setHl w).sp = s.sp := rfl
@[simp] theorem State.setHl_pc (s : State) (w : Word) : (s.setHl w).pc = s.pc := rfl
@[simp] theorem State.setHl_ime (s : State) (w : Word) : (s.setHl w).ime = s.ime := rfl
@[simp] theorem State.setHl_halted (s : State) (w : Word) : (s.setHl w).halted = s.halted := rfl
@[simp] theorem State.setHl_haltbug (s : State) (w : Word) : (s.setHl w).haltbug = s.haltbug := rfl
@[simp] theorem State.setHl_addcyc (s : State) (w : Word) : (s.setHl w).addcyc = s.addcyc := rfl
@[simp] theorem State.setHl_busState (s : State) (w : Word) : (s.setHl w).busState = s.busState := rfl
@[simp] theorem State.setHl_params (s : State) (w : Word) : (s.setHl w).params = s.params := rfl
@[simp] theorem State.setHl_env (s : State) (w : Word) : (s.setHl w).env = s.env := rfl
@[simp] theorem State.setHl_freeCount (s : State) (w : Word) : (s.setHl w).freeCount = s.freeCount := rfl
@[simp] theorem State.setHl_out (s : State) (w : Word) : (s.setHl w).out = s.out := rfl

@[simp] theorem State.setAf_a (s : State) (w : Word) : (s.setAf w).a = hi8 w := rfl
@[simp] theorem State.setAf_b (s : State) (w : Word) : (s.setAf w).b = s.b := rfl
@[simp] theorem State.setAf_c (s : State) (w : Word) : (s.setAf w).c = s.c := rfl
@[simp] theorem State.setAf_d (s : State) (w : Word) : (s.setAf w).d = s.d := rfl
@[simp] theorem State.setAf_e (s : State) (w : Word) : (s.setAf w).e = s.e := rfl
@[simp] theorem State.setAf_h (s : State) (w : Word) : (s.setAf w).h = s.h := rfl
@[simp] theorem State.setAf_l (s : State) (w : Word) : (s.setAf w).l = s.l := rfl
@[simp] theorem State.setAf_f (s : State) (w : Word) : (s.setAf w).f = lo8 w &&& 0xF0 := rfl
@[simp] theorem State.setAf_sp (s : State) (w : Word) : (s.setAf w).sp = s.sp := rfl
@[simp] theorem State.setAf_pc (s : State) (w : Word) : (s.setAf w).pc = s.pc := rfl
@[simp] theorem State.setAf_ime (s : State) (w : Word) : (s.setAf w).ime = s.ime := rfl
@[simp] theorem State.setAf_halted (s : State) (w : Word) : (s.setAf w).halted = s.halted := rfl
@[simp] theorem State.setAf_haltbug (s : State) (w : Word) : (s.setAf w).haltbug = s.haltbug := rfl
@[simp] theorem State.setAf_addcyc (s : State) (w : Word) : (s.setAf w).addcyc = s.addcyc := rfl
@[simp] theorem State.setAf_busState (s : State) (w : Word) : (s.setAf w).busState = s.busState := rfl
@[simp] theorem State.setAf_params (s : State) (w : Word) : (s.setAf w).params = s.params := rfl
@[simp] theorem State.setAf_env (s : State) (w : Word) : (s.setAf w).env = s.env := rfl
@[simp] theorem State.setAf_freeCount (s : State) (w : Word) : (s.setAf w).freeCount = s.freeCount := rfl
@[simp] theorem State.setAf_out (s : State) (w : Word) : (s.setAf w).out = s.out := rfl

@[simp] theorem State.logBus_a (s : State) (ev : BusEvent) : (s.logBus ev).a = s.a := rfl
@[simp] theorem State.logBus_b (s : State) (ev : BusEvent) : (s.logBus ev).b = s.b := rfl
@[simp] theorem State.logBus_c (s : State) (ev : BusEvent) : (s.logBus ev).c = s.c := rfl
@[simp] theorem State.logBus_d (s : State) (ev : BusEvent) : (s.logBus ev).d = s.d := rfl
@[simp] theorem State.logBus_e (s : State) (ev : BusEvent) : (s.logBus ev).e = s.e := rfl
@[simp] theorem State.logBus_h (s : State) (ev : BusEvent) : (s.logBus ev).h = s.h := rfl
@[simp] theorem State.logBus_l (s : State) (ev : BusEvent) : (s.logBus ev).l = s.l := rfl
@[simp] theorem State.logBus_f (s : State) (ev : BusEvent) : (s.logBus ev).f = s.f := rfl
@[simp] theorem State.logBus_sp (s : State) (ev : BusEvent) : (s.logBus ev).sp = s.sp := rfl
@[simp] theorem State.logBus_pc (s : State) (ev : BusEvent) : (s.logBus ev).pc = s.pc := rfl
@[simp] theorem State.logBus_ime (s : State) (ev : BusEvent) : (s.logBus ev).ime = s.ime := rfl
@[simp] theorem State.logBus_halted (s : State) (ev : BusEvent) : (s.logBus ev).halted = s.halted := rfl
@[simp] theorem State.logBus_haltbug (s : State) (ev : BusEvent) : (s.logBus ev).haltbug = s.haltbug := rfl
@[simp] theorem State.logBus_addcyc (s : State) (ev : BusEvent) : (s.logBus ev).addcyc = s.addcyc := rfl
@[simp] theorem State.logBus_busState (s : State) (ev : BusEvent) : (s.logBus ev).busState = s.busState := rfl
@[simp] theorem State.logBus_params (s : State) (ev : BusEvent) : (s.logBus ev).params = s.params := rfl
@[simp] theorem State.logBus_env (s : State) (ev : BusEvent) : (s.logBus ev).env = s.env := rfl
@[simp] theorem State.logBus_freeCount (s : State) (ev : BusEvent) : (s.logBus ev).freeCount = s.freeCount := rfl

@[simp] theorem State.memWrite_a (s : State) (addr : Word) (v : Byte) : (s.memWrite addr v).a = s.a := rfl
@[simp] theorem State.memWrite_b (s : State) (addr : Word) (v : Byte) : (s.memWrite addr v).b = s.b := rfl
@[simp] theorem State.memWrite_c (s : State) (addr : Word) (v : Byte) : (s.memWrite addr v).c = s.c := rfl
@[simp] theorem State.memWrite_d (s : State) (addr : Word) (v : Byte) : (s.memWrite addr v).d = s.d := rfl
@[simp] theorem State.memWrite_e (s : State) (addr : Word) (v : Byte) : (s.memWrite addr v).e = s.e := rfl
@[simp] theorem State.memWrite_h (s : State) (addr : Word) (v : Byte) : (s.memWrite addr v).h = s.h := rfl
@[simp] theorem State.memWrite_l (s : State) (addr : Word) (v : Byte) : (s.memWrite addr v).l = s.l := rfl
@[simp] theorem State.memWrite_f (s : State) (addr : Word) (v : Byte) : (s.memWrite addr v).f = s.f := rfl
@[simp] theorem State.memWrite_sp (s : State) (addr : Word) (v : Byte) : (s.memWrite addr v).sp = s.sp := rfl
@[simp] theorem State.memWrite_pc (s : State) (addr : Word) (v : Byte) : (s.memWrite addr v).pc = s.pc := rfl
@[simp] theorem State.memWrite_ime (s : State) (addr : Word) (v : Byte) : (s.memWrite addr v).ime = s.ime := rfl
@[simp] theorem State.memWrite_halted (s : State) (addr : Word) (v : Byte) : (s.memWrite addr v).halted = s.halted := rfl
@[simp] theorem State.memWrite_haltbug (s : State) (addr : Word) (v : Byte) : (s.memWrite addr v).haltbug = s.haltbug := rfl
@[simp] theorem State.memWrite_addcyc (s : State) (addr : Word) (v : Byte) : (s.memWrite addr v).addcyc = s.addcyc := rfl
@[simp] theorem State.memWrite_busState (s : State) (addr : Word) (v : Byte) : (s.memWrite addr v).busState = busWrite s.busState addr v := rfl
@[simp] theorem State.memWrite_params (s : State) (addr : Word) (v : Byte) : (s.memWrite addr v).params = s.params := rfl
@[simp] theorem State.memWrite_env (s : State) (addr : Word) (v : Byte) : (s.memWrite addr v).env = s.env := rfl
@[simp] theorem State.memWrite_freeCount (s : State) (addr : Word) (v : Byte) : (s.memWrite addr v).freeCount = s.freeCount := rfl

@[simp] theorem State.memRead_snd_a (s : State) (addr : Word) : ((s.memRead addr).2).a = s.a := rfl
@[simp] theorem State.memRead_snd_b (s : State) (addr : Word) : ((s.memRead addr).2).b = s.b := rfl
@[simp] theorem State.memRead_snd_c (s : State) (addr : Word) : ((s.memRead addr).2).c = s.c := rfl
@[simp] theorem State.memRead_snd_d (s : State) (addr : Word) : ((s.memRead addr).2).d = s.d := rfl
@[simp] theorem State.memRead_snd_e (s : State) (addr : Word) : ((s.memRead addr).2).e = s.e := rfl
@[simp] theorem State.memRead_snd_h (s : State) (addr : Word) : ((s.memRead addr).2).h = s.h := rfl
@[simp] theorem State.memRead_snd_l (s : State) (addr : Word) : ((s.memRead addr).2).l = s.l := rfl
@[simp] theorem State.memRead_snd_f (s : State) (addr : Word) : ((s.memRead addr).2).f = s.f := rfl
@[simp] theorem State.memRead_snd_sp (s : State) (addr : Word) : ((s.memRead addr).2).sp = s.sp := rfl
@[simp] theorem State.memRead_snd_pc (s : State) (addr : Word) : ((s.memRead addr).2).pc = s.pc := rfl
@[simp] theorem State.memRead_snd_ime (s : State) (addr : Word) : ((s.memRead addr).2).ime = s.ime := rfl
@[simp] theorem State.memRead_snd_halted (s : State) (addr : Word) : ((s.memRead addr).2).halted = s.halted := rfl
@[simp] theorem State.memRead_snd_haltbug (s : State) (addr : Word) : ((s.memRead addr).2).haltbug = s.haltbug := rfl
@[simp] theorem State.memRead_snd_addcyc (s : State) (addr : Word) : ((s.memRead addr).2).addcyc = s.addcyc := rfl
@[simp] theorem State.memRead_snd_busState (s : State) (addr : Word) : ((s.memRead addr).2).busState = s.busState := rfl
@[simp] theorem State.memRead_snd_params (s : State) (addr : Word) : ((s.memRead addr).2).params = s.params := rfl
@[simp] theorem State.memRead_snd_env (s : State) (addr : Word) : ((s.memRead addr).2).env = s.env := rfl
@[simp] theorem State.memRead_snd_freeCount (s : State) (addr : Word) : ((s.memRead addr).2).freeCount = s.freeCount := rfl

@[simp] theorem State.readPending_a (s : State)  : (s.readPending).a = s.a := rfl
@[simp] theorem State.readPending_b (s : State)  : (s.readPending).b = s.b := rfl
@[simp] theorem State.readPending_c (s : State)  : (s.readPending).c = s.c := rfl
@[simp] theorem State.readPending_d (s : State)  : (s.readPending).d = s.d := rfl
@[simp] theorem State.readPending_e (s : State)  : (s.readPending).e = s.e := rfl
@[simp] theorem State.readPending_h (s : State)  : (s.readPending).h = s.h := rfl
@[simp] theorem State.readPending_l (s : State)  : (s.readPending).l = s.l := rfl
@[simp] theorem State.readPending_f (s : State)  : (s.readPending).f = s.f := rfl
@[simp] theorem State.readPending_sp (s : State)  : (s.readPending).sp = s.sp := rfl
@[simp] theorem State.readPending_pc (s : State)  : (s.readPending).pc = s.pc := rfl
@[simp] theorem State.readPending_ime (s : State)  : (s.readPending).ime = s.ime := rfl
@[simp] theorem State.readPending_halted (s : State)  : (s.readPending).halted = s.halted := rfl
@[simp] theorem State.readPending_haltbug (s : State)  : (s.readPending).haltbug = s.haltbug := rfl
@[simp] theorem State.readPending_addcyc (s : State)  : (s.readPending).addcyc = s.addcyc := rfl
@[simp] theorem State.readPending_busState (s : State)  : (s.readPending).busState = s.busState := rfl
@[simp] theorem State.readPending_params (s : State)  : (s.readPending).params = s.params := rfl
@[simp] theorem State.readPending_env (s : State)  : (s.readPending).env = s.env := rfl
@[simp] theorem State.readPending_freeCount (s : State)  : (s.readPending).freeCount = s.freeCount := rfl

@[simp] theorem State.logBus_bus (s : State) (ev : BusEvent) : (s.logBus ev).out.bus = s.out.bus ++ [ev] := rfl
@[simp] theorem State.memWrite_bus (s : State) (addr : Word) (v : Byte) :
    (s.memWrite addr v).out.bus = s.out.bus ++ [.write addr v] := rfl
@[simp] theorem State.memRead_bus (s : State) (addr : Word) :
    (s.memRead addr).2.out.bus = s.out.bus ++ [.read addr (s.peek addr)] := rfl
@[simp] theorem State.memRead_fst (s : State) (addr : Word) : (s.memRead addr).1 = s.peek addr := rfl

end Sys2Proof.Machine
end

