-- ==== Sys2Proof/Laws/Ops.lean ====
section
/-! SUPPORT. What each shared operation does, said once: the values it gives, the fields it leaves, the bus accesses
it makes. -/
namespace Sys2Proof.Machine

/-! ### Halves and pairs -/

@[simp] theorem hi8_mk16 (h l : Byte) : hi8 (mk16 h l) = h := by
  unfold hi8 mk16
  have key := fun i => BitVec.getLsbD_append (i := i) (x := h) (y := l)
  ext i hi
  simp only [BitVec.getElem_extractLsb']
  rw [key]
  simp [BitVec.getLsbD_eq_getElem hi]

@[simp] theorem lo8_mk16 (h l : Byte) : lo8 (mk16 h l) = l := by
  unfold lo8 mk16
  have key := fun i => BitVec.getLsbD_append (i := i) (x := h) (y := l)
  ext i hi
  simp only [BitVec.getElem_extractLsb']
  rw [key]
  simp [hi]

@[simp] theorem mk16_hi8_lo8 (w : Word) : mk16 (hi8 w) (lo8 w) = w := by
  unfold hi8 lo8 mk16
  apply BitVec.eq_of_getLsbD_eq
  intro i hi
  rw [BitVec.getLsbD_append (x := w.extractLsb' 8 8) (y := w.extractLsb' 0 8)]
  split
  · simp [*]
  · next h => simp [show 8 + (i - 8) = i by omega, show i - 8 < 8 by omega]

/-! ### Flags -/

@[simp] theorem and_F0_and_F0 (v : Byte) : v &&& 0xF0 &&& 0xF0 = v &&& 0xF0 := by
  rw [BitVec.and_assoc]; rfl

@[simp] theorem and_F0_and_0F (v : Byte) : v &&& 0xF0 &&& 0x0F = 0 := by
  rw [BitVec.and_assoc]; simp

theorem packFlags_and_F0 (z n h c : Bool) : packFlags z n h c &&& 0xF0 = packFlags z n h c := by
  cases z <;> cases n <;> cases h <;> cases c <;> rfl

@[simp] theorem getF_setF (s : State) (v : Byte) : (s.setF v).getF = v &&& 0xF0 := and_F0_and_F0 v

@[simp] theorem getF_withFlags (s : State) (z n h c : Bool) : (s.withFlags z n h c).getF = packFlags z n h c := by
  rw [State.withFlags, getF_setF, packFlags_and_F0]

@[simp] theorem flagZ_withFlags (s : State) (z n h c : Bool) : (s.withFlags z n h c).flagZ = z := by
  rw [State.flagZ, getF_withFlags]; cases z <;> cases n <;> cases h <;> cases c <;> rfl

@[simp] theorem flagN_withFlags (s : State) (z n h c : Bool) : (s.withFlags z n h c).flagN = n := by
  rw [State.flagN, getF_withFlags]; cases z <;> cases n <;> cases h <;> cases c <;> rfl

@[simp] theorem flagH_withFlags (s : State) (z n h c : Bool) : (s.withFlags z n h c).flagH = h := by
  rw [State.flagH, getF_withFlags]; cases z <;> cases n <;> cases h <;> cases c <;> rfl

@[simp] theorem flagC_withFlags (s : State) (z n h c : Bool) : (s.withFlags z n h c).flagC = c := by
  rw [State.flagC, getF_withFlags]; cases z <;> cases n <;> cases h <;> cases c <;> rfl

theorem getF_of_f {s t : State} (h : t.f = s.f) : t.getF = s.getF := by rw [State.getF, State.getF, h]

/-- A condition reads F only. -/
theorem cond_of_f {s t : State} (h : t.f = s.f) (cc : Cond) : t.cond cc = s.cond cc := by
  cases cc <;> simp [State.cond, State.flagZ, State.flagC, getF_of_f h]

/-! ### The bus -/

/-- What the bus presents depends on the bus alone. -/
theorem peek_of_busState {s t : State} (h : t.busState = s.busState) : t.peek = s.peek := by
  funext addr; rw [State.peek, State.peek, h]

@[simp] theorem peek_memRead (s : State) (addr addr' : Word) : (s.memRead addr).2.peek addr' = s.peek addr' := rfl

/-! ### Fetch, push and pop -/

@[simp] theorem State.fetch8_fst (s : State) : s.fetch8.1 = s.peek s.pc := rfl
@[simp] theorem State.fetch8_snd_a (s : State)  : (s.fetch8.2).a = s.a := rfl
@[simp] theorem State.fetch8_snd_b (s : State)  : (s.fetch8.2).b = s.b := rfl
@[simp] theorem State.fetch8_snd_c (s : State)  : (s.fetch8.2).c = s.c := rfl
@[simp] theorem State.fetch8_snd_d (s : State)  : (s.fetch8.2).d = s.d := rfl
@[simp] theorem State.fetch8_snd_e (s : State)  : (s.fetch8.2).e = s.e := rfl
@[simp] theorem State.fetch8_snd_h (s : State)  : (s.fetch8.2).h = s.h := rfl
@[simp] theorem State.fetch8_snd_l (s : State)  : (s.fetch8.2).l = s.l := rfl
@[simp] theorem State.fetch8_snd_f (s : State)  : (s.fetch8.2).f = s.f := rfl
@[simp] theorem State.fetch8_snd_sp (s : State)  : (s.fetch8.2).sp = s.sp := rfl
@[simp] theorem State.fetch8_snd_pc (s : State)  : (s.fetch8.2).pc = s.pc + 1 := rfl
@[simp] theorem State.fetch8_snd_ime (s : State)  : (s.fetch8.2).ime = s.ime := rfl
@[simp] theorem State.fetch8_snd_halted (s : State)  : (s.fetch8.2).halted = s.halted := rfl
@[simp] theorem State.fetch8_snd_haltbug (s : State)  : (s.fetch8.2).haltbug = s.haltbug := rfl
@[simp] theorem State.fetch8_snd_addcyc (s : State)  : (s.fetch8.2).addcyc = s.addcyc := rfl
@[simp] theorem State.fetch8_snd_busState (s : State)  : (s.fetch8.2).busState = s.busState := rfl
@[simp] theorem State.fetch8_snd_params (s : State)  : (s.fetch8.2).params = s.params := rfl
@[simp] theorem State.fetch8_snd_env (s : State)  : (s.fetch8.2).env = s.env := rfl
@[simp] theorem State.fetch8_snd_freeCount (s : State)  : (s.fetch8.2).freeCount = s.freeCount := rfl

theorem State.fetch8_bus (s : State) : s.fetch8.2.out.bus = s.out.bus ++ [.read s.pc (s.peek s.pc)] := rfl

theorem sub_one_sub_one (w : Word) : w - 1#16 - 1#16 = w - 2#16 := by
  apply BitVec.eq_of_toNat_eq
  simp only [BitVec.toNat_sub, BitVec.toNat_ofNat]
  omega

theorem add_one_add_one (w : Word) : w + 1#16 + 1#16 = w + 2#16 := by
  apply BitVec.eq_of_toNat_eq
  simp [BitVec.toNat_add]

@[simp] theorem State.push16_a (s : State) (w : Word) : (s.push16 w).a = s.a := by simp [State.push16]
@[simp] theorem State.push16_b (s : State) (w : Word) : (s.push16 w).b = s.b := by simp [State.push16]
@[simp] theorem State.push16_c (s : State) (w : Word) : (s.push16 w).c = s.c := by simp [State.push16]
@[simp] theorem State.push16_d (s : State) (w : Word) : (s.push16 w).d = s.d := by simp [State.push16]
@[simp] theorem State.push16_e (s : State) (w : Word) : (s.push16 w).e = s.e := by simp [State.push16]
@[simp] theorem State.push16_h (s : State) (w : Word) : (s.push16 w).h = s.h := by simp [State.push16]
@[simp] theorem State.push16_l (s : State) (w : Word) : (s.push16 w).l = s.l := by simp [State.push16]
@[simp] theorem State.push16_f (s : State) (w : Word) : (s.push16 w).f = s.f := by simp [State.push16]
@[simp] theorem State.push16_sp (s : State) (w : Word) : (s.push16 w).sp = s.sp - 2 := by
  simp only [State.push16, State.setSp_sp, State.memWrite_sp, show (1 : Word) = 1#16 from rfl,
    show (2 : Word) = 2#16 from rfl, sub_one_sub_one]
@[simp] theorem State.push16_pc (s : State) (w : Word) : (s.push16 w).pc = s.pc := by simp [State.push16]
@[simp] theorem State.push16_ime (s : State) (w : Word) : (s.push16 w).ime = s.ime := by simp [State.push16]
@[simp] theorem State.push16_halted (s : State) (w : Word) : (s.push16 w).halted = s.halted := by simp [State.push16]
@[simp] theorem State.push16_haltbug (s : State) (w : Word) : (s.push16 w).haltbug = s.haltbug := by simp [State.push16]
@[simp] theorem State.push16_addcyc (s : State) (w : Word) : (s.push16 w).addcyc = s.addcyc := by simp [State.push16]
@[simp] theorem State.push16_busState (s : State) (w : Word) : (s.push16 w).busState = busWrite (busWrite s.busState (s.sp - 1) (hi8 w)) (s.sp - 2) (lo8 w) := by
  simp only [State.push16, State.setSp_sp, State.memWrite_sp, State.memWrite_busState, State.setSp_busState,
    show (1 : Word) = 1#16 from rfl,
    show (2 : Word) = 2#16 from rfl, sub_one_sub_one]
@[simp] theorem State.push16_params (s : State) (w : Word) : (s.push16 w).params = s.params := by simp [State.push16]
@[simp] theorem State.push16_env (s : State) (w : Word) : (s.push16 w).env = s.env := by simp [State.push16]
@[simp] theorem State.push16_freeCount (s : State) (w : Word) : (s.push16 w).freeCount = s.freeCount := by simp [State.push16]

/-- The two writes of a push, high byte first (20_memory.md R68). -/
theorem State.push16_bus (s : State) (w : Word) :
    (s.push16 w).out.bus = s.out.bus ++ [.write (s.sp - 1) (hi8 w), .write (s.sp - 2) (lo8 w)] := by
  simp [State.push16, sub_one_sub_one]

/-- The word a pop gives (20_memory.md R69). -/
@[simp] theorem State.pop16_fst (s : State) : s.pop16.1 = mk16 (s.peek (s.sp + 1)) (s.peek s.sp) := rfl

@[simp] theorem State.pop16_snd_a (s : State)  : (s.pop16.2).a = s.a := by simp [State.pop16]
@[simp] theorem State.pop16_snd_b (s : State)  : (s.pop16.2).b = s.b := by simp [State.pop16]
@[simp] theorem State.pop16_snd_c (s : State)  : (s.pop16.2).c = s.c := by simp [State.pop16]
@[simp] theorem State.pop16_snd_d (s : State)  : (s.pop16.2).d = s.d := by simp [State.pop16]
@[simp] theorem State.pop16_snd_e (s : State)  : (s.pop16.2).e = s.e := by simp [State.pop16]
@[simp] theorem State.pop16_snd_h (s : State)  : (s.pop16.2).h = s.h := by simp [State.pop16]
@[simp] theorem State.pop16_snd_l (s : State)  : (s.pop16.2).l = s.l := by simp [State.pop16]
@[simp] theorem State.pop16_snd_f (s : State)  : (s.pop16.2).f = s.f := by simp [State.pop16]
@[simp] theorem State.pop16_snd_sp (s : State)  : (s.pop16.2).sp = s.sp + 2 := by
  simp [State.pop16, add_one_add_one]
@[simp] theorem State.pop16_snd_pc (s : State)  : (s.pop16.2).pc = s.pc := by simp [State.pop16]
@[simp] theorem State.pop16_snd_ime (s : State)  : (s.pop16.2).ime = s.ime := by simp [State.pop16]
@[simp] theorem State.pop16_snd_halted (s : State)  : (s.pop16.2).halted = s.halted := by simp [State.pop16]
@[simp] theorem State.pop16_snd_haltbug (s : State)  : (s.pop16.2).haltbug = s.haltbug := by simp [State.pop16]
@[simp] theorem State.pop16_snd_addcyc (s : State)  : (s.pop16.2).addcyc = s.addcyc := by simp [State.pop16]
@[simp] theorem State.pop16_snd_busState (s : State)  : (s.pop16.2).busState = s.busState := by simp [State.pop16]
@[simp] theorem State.pop16_snd_params (s : State)  : (s.pop16.2).params = s.params := by simp [State.pop16]
@[simp] theorem State.pop16_snd_env (s : State)  : (s.pop16.2).env = s.env := by simp [State.pop16]
@[simp] theorem State.pop16_snd_freeCount (s : State)  : (s.pop16.2).freeCount = s.freeCount := by simp [State.pop16]

/-- The two reads of a pop, low byte first (20_memory.md R69). -/
theorem State.pop16_bus (s : State) :
    s.pop16.2.out.bus = s.out.bus ++ [.read s.sp (s.peek s.sp), .read (s.sp + 1) (s.peek (s.sp + 1))] := by
  simp [State.pop16, State.peek]

/-! ### Operands -/

@[simp] theorem State.getR8_snd_a (s : State) (r : R8) : ((s.getR8 r).2).a = s.a := by cases r <;> rfl
@[simp] theorem State.getR8_snd_b (s : State) (r : R8) : ((s.getR8 r).2).b = s.b := by cases r <;> rfl
@[simp] theorem State.getR8_snd_c (s : State) (r : R8) : ((s.getR8 r).2).c = s.c := by cases r <;> rfl
@[simp] theorem State.getR8_snd_d (s : State) (r : R8) : ((s.getR8 r).2).d = s.d := by cases r <;> rfl
@[simp] theorem State.getR8_snd_e (s : State) (r : R8) : ((s.getR8 r).2).e = s.e := by cases r <;> rfl
@[simp] theorem State.getR8_snd_h (s : State) (r : R8) : ((s.getR8 r).2).h = s.h := by cases r <;> rfl
@[simp] theorem State.getR8_snd_l (s : State) (r : R8) : ((s.getR8 r).2).l = s.l := by cases r <;> rfl
@[simp] theorem State.getR8_snd_f (s : State) (r : R8) : ((s.getR8 r).2).f = s.f := by cases r <;> rfl
@[simp] theorem State.getR8_snd_sp (s : State) (r : R8) : ((s.getR8 r).2).sp = s.sp := by cases r <;> rfl
@[simp] theorem State.getR8_snd_pc (s : State) (r : R8) : ((s.getR8 r).2).pc = s.pc := by cases r <;> rfl
@[simp] theorem State.getR8_snd_ime (s : State) (r : R8) : ((s.getR8 r).2).ime = s.ime := by cases r <;> rfl
@[simp] theorem State.getR8_snd_halted (s : State) (r : R8) : ((s.getR8 r).2).halted = s.halted := by cases r <;> rfl
@[simp] theorem State.getR8_snd_haltbug (s : State) (r : R8) : ((s.getR8 r).2).haltbug = s.haltbug := by cases r <;> rfl
@[simp] theorem State.getR8_snd_addcyc (s : State) (r : R8) : ((s.getR8 r).2).addcyc = s.addcyc := by cases r <;> rfl
@[simp] theorem State.getR8_snd_busState (s : State) (r : R8) : ((s.getR8 r).2).busState = s.busState := by cases r <;> rfl
@[simp] theorem State.getR8_snd_params (s : State) (r : R8) : ((s.getR8 r).2).params = s.params := by cases r <;> rfl
@[simp] theorem State.getR8_snd_env (s : State) (r : R8) : ((s.getR8 r).2).env = s.env := by cases r <;> rfl
@[simp] theorem State.getR8_snd_freeCount (s : State) (r : R8) : ((s.getR8 r).2).freeCount = s.freeCount := by cases r <;> rfl

/-- Reading an operand touches the bus for code 6 only, with one read at HL (10_state.md R24). -/
theorem State.getR8_cases (s : State) (r : R8) :
    (r ≠ .memHl ∧ (s.getR8 r).2 = s) ∨ (r = .memHl ∧ s.getR8 r = s.memRead s.hl) := by
  cases r <;> simp [State.getR8]

@[simp] theorem State.setR8_f (s : State) (r : R8) (v : Byte) : (s.setR8 r v).f = s.f := by cases r <;> rfl
@[simp] theorem State.setR8_sp (s : State) (r : R8) (v : Byte) : (s.setR8 r v).sp = s.sp := by cases r <;> rfl
@[simp] theorem State.setR8_pc (s : State) (r : R8) (v : Byte) : (s.setR8 r v).pc = s.pc := by cases r <;> rfl
@[simp] theorem State.setR8_ime (s : State) (r : R8) (v : Byte) : (s.setR8 r v).ime = s.ime := by cases r <;> rfl
@[simp] theorem State.setR8_halted (s : State) (r : R8) (v : Byte) : (s.setR8 r v).halted = s.halted := by cases r <;> rfl
@[simp] theorem State.setR8_haltbug (s : State) (r : R8) (v : Byte) : (s.setR8 r v).haltbug = s.haltbug := by cases r <;> rfl
@[simp] theorem State.setR8_addcyc (s : State) (r : R8) (v : Byte) : (s.setR8 r v).addcyc = s.addcyc := by cases r <;> rfl
@[simp] theorem State.setR8_params (s : State) (r : R8) (v : Byte) : (s.setR8 r v).params = s.params := by cases r <;> rfl
@[simp] theorem State.setR8_env (s : State) (r : R8) (v : Byte) : (s.setR8 r v).env = s.env := by cases r <;> rfl
@[simp] theorem State.setR8_freeCount (s : State) (r : R8) (v : Byte) : (s.setR8 r v).freeCount = s.freeCount := by cases r <;> rfl

@[simp] theorem State.setRp_a (s : State) (p : Rp) (w : Word) : (s.setRp p w).a = s.a := by cases p <;> rfl
@[simp] theorem State.setRp_f (s : State) (p : Rp) (w : Word) : (s.setRp p w).f = s.f := by cases p <;> rfl
@[simp] theorem State.setRp_pc (s : State) (p : Rp) (w : Word) : (s.setRp p w).pc = s.pc := by cases p <;> rfl
@[simp] theorem State.setRp_ime (s : State) (p : Rp) (w : Word) : (s.setRp p w).ime = s.ime := by cases p <;> rfl
@[simp] theorem State.setRp_halted (s : State) (p : Rp) (w : Word) : (s.setRp p w).halted = s.halted := by cases p <;> rfl
@[simp] theorem State.setRp_haltbug (s : State) (p : Rp) (w : Word) : (s.setRp p w).haltbug = s.haltbug := by cases p <;> rfl
@[simp] theorem State.setRp_addcyc (s : State) (p : Rp) (w : Word) : (s.setRp p w).addcyc = s.addcyc := by cases p <;> rfl
@[simp] theorem State.setRp_busState (s : State) (p : Rp) (w : Word) : (s.setRp p w).busState = s.busState := by cases p <;> rfl
@[simp] theorem State.setRp_params (s : State) (p : Rp) (w : Word) : (s.setRp p w).params = s.params := by cases p <;> rfl
@[simp] theorem State.setRp_env (s : State) (p : Rp) (w : Word) : (s.setRp p w).env = s.env := by cases p <;> rfl
@[simp] theorem State.setRp_freeCount (s : State) (p : Rp) (w : Word) : (s.setRp p w).freeCount = s.freeCount := by cases p <;> rfl
@[simp] theorem State.setRp_out (s : State) (p : Rp) (w : Word) : (s.setRp p w).out = s.out := by cases p <;> rfl

@[simp] theorem State.setRp2_sp (s : State) (p : Rp2) (w : Word) : (s.setRp2 p w).sp = s.sp := by cases p <;> rfl
@[simp] theorem State.setRp2_pc (s : State) (p : Rp2) (w : Word) : (s.setRp2 p w).pc = s.pc := by cases p <;> rfl
@[simp] theorem State.setRp2_ime (s : State) (p : Rp2) (w : Word) : (s.setRp2 p w).ime = s.ime := by cases p <;> rfl
@[simp] theorem State.setRp2_halted (s : State) (p : Rp2) (w : Word) : (s.setRp2 p w).halted = s.halted := by cases p <;> rfl
@[simp] theorem State.setRp2_haltbug (s : State) (p : Rp2) (w : Word) : (s.setRp2 p w).haltbug = s.haltbug := by cases p <;> rfl
@[simp] theorem State.setRp2_addcyc (s : State) (p : Rp2) (w : Word) : (s.setRp2 p w).addcyc = s.addcyc := by cases p <;> rfl
@[simp] theorem State.setRp2_busState (s : State) (p : Rp2) (w : Word) : (s.setRp2 p w).busState = s.busState := by cases p <;> rfl
@[simp] theorem State.setRp2_params (s : State) (p : Rp2) (w : Word) : (s.setRp2 p w).params = s.params := by cases p <;> rfl
@[simp] theorem State.setRp2_env (s : State) (p : Rp2) (w : Word) : (s.setRp2 p w).env = s.env := by cases p <;> rfl
@[simp] theorem State.setRp2_freeCount (s : State) (p : Rp2) (w : Word) : (s.setRp2 p w).freeCount = s.freeCount := by cases p <;> rfl
@[simp] theorem State.setRp2_out (s : State) (p : Rp2) (w : Word) : (s.setRp2 p w).out = s.out := by cases p <;> rfl

/-- Writing an operand is a register write, or one bus write at HL for code 6 (10_state.md R24). -/
theorem State.setR8_busState (s : State) (r : R8) (v : Byte) :
    (s.setR8 r v).busState = if r = .memHl then busWrite s.busState s.hl v else s.busState := by cases r <;> rfl

theorem State.setR8_bus (s : State) (r : R8) (v : Byte) :
    (s.setR8 r v).out.bus = s.out.bus ++ if r = .memHl then [.write s.hl v] else [] := by
  cases r <;> simp [State.setR8]

theorem State.getR8_bus (s : State) (r : R8) :
    (s.getR8 r).2.out.bus = s.out.bus ++ if r = .memHl then [.read s.hl (s.peek s.hl)] else [] := by
  cases r <;> simp [State.getR8]

/-! ### Interrupts -/

@[simp] theorem State.dispatch_a (s : State) (src : Source) (v : Byte) : (s.dispatch src v).a = s.a := by
  simp [State.dispatch]
@[simp] theorem State.dispatch_b (s : State) (src : Source) (v : Byte) : (s.dispatch src v).b = s.b := by
  simp [State.dispatch]
@[simp] theorem State.dispatch_c (s : State) (src : Source) (v : Byte) : (s.dispatch src v).c = s.c := by
  simp [State.dispatch]
@[simp] theorem State.dispatch_d (s : State) (src : Source) (v : Byte) : (s.dispatch src v).d = s.d := by
  simp [State.dispatch]
@[simp] theorem State.dispatch_e (s : State) (src : Source) (v : Byte) : (s.dispatch src v).e = s.e := by
  simp [State.dispatch]
@[simp] theorem State.dispatch_h (s : State) (src : Source) (v : Byte) : (s.dispatch src v).h = s.h := by
  simp [State.dispatch]
@[simp] theorem State.dispatch_l (s : State) (src : Source) (v : Byte) : (s.dispatch src v).l = s.l := by
  simp [State.dispatch]
@[simp] theorem State.dispatch_f (s : State) (src : Source) (v : Byte) : (s.dispatch src v).f = s.f := by
  simp [State.dispatch]
@[simp] theorem State.dispatch_sp (s : State) (src : Source) (v : Byte) : (s.dispatch src v).sp = s.sp - 2 := by
  simp [State.dispatch]
@[simp] theorem State.dispatch_pc (s : State) (src : Source) (v : Byte) : (s.dispatch src v).pc = intVec src := by
  simp [State.dispatch]
@[simp] theorem State.dispatch_ime (s : State) (src : Source) (v : Byte) : (s.dispatch src v).ime = false := by
  simp [State.dispatch]
@[simp] theorem State.dispatch_halted (s : State) (src : Source) (v : Byte) : (s.dispatch src v).halted = false := by
  simp [State.dispatch]
@[simp] theorem State.dispatch_haltbug (s : State) (src : Source) (v : Byte) : (s.dispatch src v).haltbug = s.haltbug := by
  simp [State.dispatch]
@[simp] theorem State.dispatch_addcyc (s : State) (src : Source) (v : Byte) : (s.dispatch src v).addcyc = s.addcyc := by
  simp [State.dispatch]
@[simp] theorem State.dispatch_busState (s : State) (src : Source) (v : Byte) : (s.dispatch src v).busState = 
    busWrite (busWrite (busWrite s.busState (s.sp - 1) (hi8 s.pc)) (s.sp - 2) (lo8 s.pc)) ifAddr
      (v &&& ~~~(1#8 <<< intBit src)) := by
  simp [State.dispatch]
@[simp] theorem State.dispatch_params (s : State) (src : Source) (v : Byte) : (s.dispatch src v).params = s.params := by
  simp [State.dispatch]
@[simp] theorem State.dispatch_env (s : State) (src : Source) (v : Byte) : (s.dispatch src v).env = s.env := by
  simp [State.dispatch]
@[simp] theorem State.dispatch_freeCount (s : State) (src : Source) (v : Byte) : (s.dispatch src v).freeCount = s.freeCount := by
  simp [State.dispatch]

@[simp] theorem State.returnFromInterrupt_a (s : State)  : (s.returnFromInterrupt).a = s.a := by
  simp [State.returnFromInterrupt, State.peek]
@[simp] theorem State.returnFromInterrupt_b (s : State)  : (s.returnFromInterrupt).b = s.b := by
  simp [State.returnFromInterrupt, State.peek]
@[simp] theorem State.returnFromInterrupt_c (s : State)  : (s.returnFromInterrupt).c = s.c := by
  simp [State.returnFromInterrupt, State.peek]
@[simp] theorem State.returnFromInterrupt_d (s : State)  : (s.returnFromInterrupt).d = s.d := by
  simp [State.returnFromInterrupt, State.peek]
@[simp] theorem State.returnFromInterrupt_e (s : State)  : (s.returnFromInterrupt).e = s.e := by
  simp [State.returnFromInterrupt, State.peek]
@[simp] theorem State.returnFromInterrupt_h (s : State)  : (s.returnFromInterrupt).h = s.h := by
  simp [State.returnFromInterrupt, State.peek]
@[simp] theorem State.returnFromInterrupt_l (s : State)  : (s.returnFromInterrupt).l = s.l := by
  simp [State.returnFromInterrupt, State.peek]
@[simp] theorem State.returnFromInterrupt_f (s : State)  : (s.returnFromInterrupt).f = s.f := by
  simp [State.returnFromInterrupt, State.peek]
@[simp] theorem State.returnFromInterrupt_sp (s : State)  : (s.returnFromInterrupt).sp = s.sp + 2 := by
  simp [State.returnFromInterrupt, State.peek]
@[simp] theorem State.returnFromInterrupt_pc (s : State)  : (s.returnFromInterrupt).pc = mk16 (s.peek (s.sp + 1)) (s.peek s.sp) := by
  simp [State.returnFromInterrupt, State.peek]
@[simp] theorem State.returnFromInterrupt_ime (s : State)  : (s.returnFromInterrupt).ime = true := by
  simp [State.returnFromInterrupt, State.peek]
@[simp] theorem State.returnFromInterrupt_halted (s : State)  : (s.returnFromInterrupt).halted = s.halted := by
  simp [State.returnFromInterrupt, State.peek]
@[simp] theorem State.returnFromInterrupt_haltbug (s : State)  : (s.returnFromInterrupt).haltbug = s.haltbug := by
  simp [State.returnFromInterrupt, State.peek]
@[simp] theorem State.returnFromInterrupt_addcyc (s : State)  : (s.returnFromInterrupt).addcyc = s.addcyc := by
  simp [State.returnFromInterrupt, State.peek]
@[simp] theorem State.returnFromInterrupt_busState (s : State)  : (s.returnFromInterrupt).busState = s.busState := by
  simp [State.returnFromInterrupt, State.peek]
@[simp] theorem State.returnFromInterrupt_params (s : State)  : (s.returnFromInterrupt).params = s.params := by
  simp [State.returnFromInterrupt, State.peek]
@[simp] theorem State.returnFromInterrupt_env (s : State)  : (s.returnFromInterrupt).env = s.env := by
  simp [State.returnFromInterrupt, State.peek]
@[simp] theorem State.returnFromInterrupt_freeCount (s : State)  : (s.returnFromInterrupt).freeCount = s.freeCount := by
  simp [State.returnFromInterrupt, State.peek]

/-- `Highest` answers a source exactly when one of bits 4..0 is set, and then its bit is set and no lower one is
(60_exceptions.md R357). -/
theorem highest_eq_some {m : Byte} {src : Source} (h : highest m = some src) :
    m.getLsbD (intBit src) = true ∧ ∀ i < intBit src, m.getLsbD i = false := by
  have lt1 : ∀ i, i < 1 → i = 0 := by omega
  unfold highest at h
  repeat' split at h
  all_goals simp only [Option.some.injEq, reduceCtorEq] at h
  all_goals subst h
  all_goals refine ⟨by assumption, fun i hi => ?_⟩
  all_goals simp only [intBit] at hi
  all_goals interval_cases i
  all_goals simp_all

/-- The cases of an interrupt check (60_exceptions.md R359). -/
theorem State.interruptCheck_cases (s : State) :
    (s.ime = true ∧ highest s.pendingMask = none ∧ s.interruptCheck = (0, s.readPending)) ∨
    (∃ src, s.ime = true ∧ highest s.pendingMask = some src ∧
      s.interruptCheck = (s.params.intDispatchCycles, s.readPending.dispatch src (s.peek ifAddr))) ∨
    (s.ime = false ∧ s.params.haltWakeWithoutIme = true ∧ s.halted = true ∧ s.pendingMask = 0 ∧
      s.interruptCheck = (0, s.readPending)) ∨
    (s.ime = false ∧ s.params.haltWakeWithoutIme = true ∧ s.halted = true ∧ s.pendingMask ≠ 0 ∧
      s.interruptCheck = (0, s.readPending.setHalted false)) ∨
    (s.ime = false ∧ (s.params.haltWakeWithoutIme = false ∨ s.halted = false) ∧ s.interruptCheck = (0, s)) := by
  unfold State.interruptCheck
  cases hi : s.ime
  · cases hw : s.params.haltWakeWithoutIme
    · simp
    · cases hh : s.halted
      · simp
      · by_cases hm : s.pendingMask = 0
        · simp [hm]
        · exact .inr (.inr (.inr (.inl ⟨rfl, rfl, rfl, hm, by simpa using fun h => absurd h hm⟩)))
  · cases hh : highest s.pendingMask <;> simp

/-! ### The environment -/

/-- What one environment event can do: a change of the bus, the latch, or reset (60_exceptions.md R371). -/
theorem State.envEvent_params (s : State) (ev : EnvEvent) : (s.envEvent ev).params = s.params := by
  cases ev <;> rfl

theorem State.envEvents_params (s : State) (es : List EnvEvent) : (s.envEvents es).params = s.params := by
  induction es generalizing s with
  | nil => rfl
  | cons ev es ih => rw [State.envEvents, ih, State.envEvent_params]

/-- The environment never changes the parameters. -/
theorem State.envAdvance_params (s : State) : s.envAdvance.params = s.params := by
  unfold State.envAdvance
  split
  · rfl
  · rw [State.envEvents_params, State.setEnv_params]

/-- A property kept by every environment event is kept by `EnvAdvance`, if it does not speak of the list. -/
theorem State.envAdvance_keeps {P : State → Prop} (henv : ∀ s l, P s → P (s.setEnv l))
    (hev : ∀ s ev, P s → P (s.envEvent ev)) {s : State} (h : P s) : P s.envAdvance := by
  have hes : ∀ (es : List EnvEvent) (s : State), P s → P (s.envEvents es) := by
    intro es
    induction es with
    | nil => exact fun s h => h
    | cons ev es ih => exact fun s h => ih _ (hev s ev h)
  unfold State.envAdvance
  split
  · exact h
  · exact hes _ _ (henv _ _ h)

end Sys2Proof.Machine
end

