-- ==== Sys2Proof/Laws/Bus.lean ====
section
/-! SUPPORT. What each shared operation does to the bus, said once: it makes some accesses, each read returns the byte
that the bus presents at that moment, and the bus afterwards is what the writes leave. And what a bus can be: any run
of presented bytes is the run of some bus. -/
namespace Sys2Proof.Machine

/-- From `s` to `t` the bus changes through recorded accesses alone. -/
def actsOnBus (s t : State) : Prop :=
  ∃ acc, t.out.bus = s.out.bus ++ acc ∧ busAgrees acc s.busState ∧ t.busState = replayBus acc s.busState

theorem busAgrees_append (xs ys : List BusEvent) (b : Bus) :
    busAgrees (xs ++ ys) b ↔ busAgrees xs b ∧ busAgrees ys (replayBus xs b) := by
  induction xs generalizing b with
  | nil => simp [busAgrees, replayBus]
  | cons e es ih => cases e <;> simp [busAgrees, replayBus, ih, and_assoc]

theorem replayBus_append (xs ys : List BusEvent) (b : Bus) :
    replayBus (xs ++ ys) b = replayBus ys (replayBus xs b) := by
  induction xs generalizing b with
  | nil => rfl
  | cons e es ih => cases e <;> simp [replayBus, ih]

/-- The accesses of a run keep the canonical form of memory. -/
theorem memWf_replayBus (xs : List BusEvent) {b : Bus} (h : Memory.wf b.mem = true) :
    Memory.wf (replayBus xs b).mem = true := by
  induction xs generalizing b with
  | nil => exact h
  | cons e es ih =>
    cases e with
    | read addr v => exact ih h
    | write addr v => exact ih (memWf_busWrite addr v h)

theorem actsOnBus_trans {s t u : State} : actsOnBus s t → actsOnBus t u → actsOnBus s u := by
  rintro ⟨xs, h1, h2, h3⟩ ⟨ys, k1, k2, k3⟩
  exact ⟨xs ++ ys, by simp [k1, h1], by rw [busAgrees_append, ← h3]; exact ⟨h2, k2⟩,
    by rw [replayBus_append, ← h3, k3]⟩

theorem actsOnBus_none {s t : State} (hb : t.out.bus = s.out.bus) (hm : t.busState = s.busState) : actsOnBus s t :=
  ⟨[], by simp [hb], trivial, by simp [replayBus, hm]⟩

theorem actsOnBus_memRead (s : State) (addr : Word) : actsOnBus s (s.memRead addr).2 :=
  ⟨[.read addr (s.peek addr)], rfl, ⟨rfl, trivial⟩, rfl⟩

theorem actsOnBus_memWrite (s : State) (addr : Word) (v : Byte) : actsOnBus s (s.memWrite addr v) :=
  ⟨[.write addr v], rfl, trivial, rfl⟩

theorem actsOnBus_memWrite16 (s : State) (addr w : Word) : actsOnBus s (s.memWrite16 addr w) :=
  actsOnBus_trans (actsOnBus_memWrite s _ _) (actsOnBus_memWrite _ _ _)

theorem actsOnBus_fetch8 (s : State) : actsOnBus s s.fetch8.2 :=
  ⟨_, State.fetch8_bus s, ⟨rfl, trivial⟩, rfl⟩

theorem actsOnBus_getR8 (s : State) (r : R8) : actsOnBus s (s.getR8 r).2 := by
  cases r <;> first | exact actsOnBus_memRead _ _ | exact actsOnBus_none rfl rfl

theorem actsOnBus_setR8 (s : State) (r : R8) (v : Byte) : actsOnBus s (s.setR8 r v) := by
  cases r <;> first | exact actsOnBus_memWrite _ _ _ | exact actsOnBus_none rfl rfl

theorem actsOnBus_push16 (s : State) (w : Word) : actsOnBus s (s.push16 w) :=
  ⟨_, State.push16_bus s w, trivial, by simp [replayBus]⟩

theorem actsOnBus_pop16 (s : State) : actsOnBus s s.pop16.2 :=
  ⟨_, State.pop16_bus s, ⟨rfl, rfl, trivial⟩, by simp [replayBus]⟩

theorem actsOnBus_readPending (s : State) : actsOnBus s s.readPending :=
  actsOnBus_trans (actsOnBus_memRead s _) (actsOnBus_memRead _ _)

theorem actsOnBus_withFlags (s : State) (z n h c : Bool) : actsOnBus s (s.withFlags z n h c) :=
  actsOnBus_none (by simp) (by simp)

/-! ### What a bus can be -/

@[simp] theorem mergeBits_all (v old : Byte) : mergeBits 255#8 v old = v := by
  rw [mergeBits, show ~~~255#8 = 0#8 from rfl, show 255#8 = BitVec.allOnes 8 from rfl, BitVec.and_zero,
    BitVec.and_allOnes, BitVec.zero_or]

/-- The mode of a bus is not what it presents. -/
theorem busRead_enter (b : Bus) (n : Nat) (addr : Word) : busRead (busChange b (.enter n)) addr = busRead b addr := rfl

/-- The changes that make the addresses in `l` present what `f` says. -/
def presentOn (f : Word → Byte) (l : List Word) : List BusChange := l.map fun addr => .put addr 0xFF (f addr)

theorem busRead_presentOn (f : Word → Byte) (l : List Word) (b : Bus) (addr : Word) :
    busRead (busChanges b (presentOn f l)) addr = if addr ∈ l then f addr else busRead b addr := by
  induction l generalizing b with
  | nil => rfl
  | cons x l ih =>
    rw [presentOn, List.map_cons, busChanges, ← presentOn, ih]
    by_cases hl : addr ∈ l
    · simp [hl]
    · by_cases hx : addr = x
      · subst hx; simp [hl, busChange]
      · simp [hl, hx, busChange, busRead_busPut_other]

/-- The changes that make every address present what `f` says. -/
@[irreducible] def present (f : Word → Byte) : List BusChange := presentOn f ((List.range 65536).map (BitVec.ofNat 16))

theorem mem_allAddrs (addr : Word) : addr ∈ (List.range 65536).map (BitVec.ofNat 16) :=
  List.mem_map.mpr ⟨addr.toNat, List.mem_range.mpr addr.isLt, by simp⟩

theorem busRead_present (f : Word → Byte) (b : Bus) (addr : Word) :
    busRead (busChanges b (present f)) addr = f addr := by
  unfold present
  rw [busRead_presentOn, if_pos (mem_allAddrs addr)]

theorem busChanges_append (b : Bus) (xs ys : List BusChange) :
    busChanges b (xs ++ ys) = busChanges (busChanges b xs) ys := by
  induction xs generalizing b with
  | nil => rfl
  | cons x xs ih => exact ih _

/-- The rule for the write in mode `k`: whatever is written, the bus then presents `f (k + 1)`. -/
def scriptRule (f : Nat → Word → Byte) (k : Nat) : BusRule where
  mode := some k
  first := 0x0000
  last := 0xFFFF
  value := none
  stores := 0x00
  changes := present (f (k + 1)) ++ [.enter (k + 1)]

theorem ruleFor_script (f : Nat → Word → Byte) {k : Nat} {l : List Nat} (h : k ∈ l) (addr : Word) (v : Byte) :
    ruleFor k addr v (l.map (scriptRule f)) = some (scriptRule f k) := by
  have hc : ∀ j, ruleCovers (scriptRule f j) k addr v = decide (j = k) := by
    intro j
    have := addr.isLt
    have hb : (j == k) = decide (j = k) := by rw [Bool.eq_iff_iff]; simp
    simp [ruleCovers, scriptRule, show addr.toNat ≤ 65535 by omega, hb]
  induction l with
  | nil => cases h
  | cons j l ih =>
    rw [List.map_cons, ruleFor, hc]
    by_cases hj : j = k
    · simp [hj]
    · simp only [hj, decide_false, Bool.false_eq_true, if_false]
      exact ih ((List.mem_cons.mp h).resolve_left (fun e => hj e.symm))

/-- One write on a bus with the script: it presents what the script says next. -/
theorem busWrite_script (f : Nat → Word → Byte) {n k : Nat} (hk : k < n) {b : Bus} (hm : b.mode = k)
    (hr : b.rules = (List.range n).map (scriptRule f)) (addr : Word) (v : Byte) :
    (busWrite b addr v).mode = k + 1 ∧ ∀ a, busRead (busWrite b addr v) a = f (k + 1) a := by
  have hw : busWrite b addr v =
      busChange (busChanges (busPut b addr (mergeBits 0x00 v (busRead b addr))) (present (f (k + 1))))
        (.enter (k + 1)) := by
    unfold busWrite
    rw [hm, hr, ruleFor_script f (List.mem_range.mpr hk)]
    exact busChanges_append _ _ _
  rw [hw]
  refine ⟨rfl, fun a => ?_⟩
  rw [busRead_enter, busRead_present]

theorem busWrites_script (f : Nat → Word → Byte) (n : Nat) (ws : List (Word × Byte)) {k : Nat} {b : Bus}
    (hm : b.mode = k) (hr : b.rules = (List.range n).map (scriptRule f)) (hf : ∀ a, busRead b a = f k a)
    (hk : k + ws.length ≤ n) (a : Word) : busRead (busWrites b ws) a = f (k + ws.length) a := by
  induction ws generalizing k b with
  | nil => exact hf a
  | cons w ws ih =>
    rw [List.length_cons] at hk ⊢
    obtain ⟨hm', hf'⟩ := busWrite_script f (show k < n by omega) hm hr w.1 w.2
    rw [show k + (ws.length + 1) = k + 1 + ws.length by omega]
    exact ih hm' (by rw [busWrite_rules, hr]) hf' (by omega)

/-- Any run of what a bus presents, through any number of writes, is the run of some bus of the model: reads may
return anything, and a write may change anything of the bus (20_memory.md R61 to R63; log 9). -/
theorem bus_realizes_run (f : Nat → Word → Byte) (n : Nat) :
    ∃ b : Bus, ∀ ws : List (Word × Byte), ws.length ≤ n → ∀ a, busRead (busWrites b ws) a = f ws.length a := by
  let b : Bus := { Bus.plain [] with rules := (List.range n).map (scriptRule f) }
  refine ⟨busChange (busChanges b (present (f 0))) (.enter 0), fun ws h a => ?_⟩
  have := busWrites_script f n ws (k := 0) rfl ((busChange_rules _ _).trans (busChanges_rules _ b))
    (fun a => (busRead_enter _ 0 a).trans (busRead_present _ b a)) (by omega) a
  rwa [Nat.zero_add] at this

end Sys2Proof.Machine
end

