-- ==== Sys2Proof/Laws/Cycle.lean ====
section
/-! SUPPORT. What follows the step in a machine cycle: what the environment does, and that the parameters and the
invariant are kept. -/
namespace Sys2Proof.Machine

@[simp] theorem State.interruptCheck_params (s : State) : s.interruptCheck.2.params = s.params := by
  unfold State.interruptCheck
  split
  · split <;> simp [State.readPending]
  · split
    · split <;> simp [State.readPending]
    · rfl

@[simp] theorem State.interruptCheck_env (s : State) : s.interruptCheck.2.env = s.env := by
  unfold State.interruptCheck
  split
  · split <;> simp [State.readPending]
  · split
    · split <;> simp [State.readPending]
    · rfl

/-! ### The environment: no event reads or writes the list or the outputs, and only bus events change the bus -/

@[simp] theorem State.envEvent_env (s : State) (e : EnvEvent) : (s.envEvent e).env = s.env := by cases e <;> rfl

@[simp] theorem State.envEvent_out (s : State) (e : EnvEvent) : (s.envEvent e).out = s.out := by cases e <;> rfl

@[simp] theorem State.envEvents_env (s : State) (es : List EnvEvent) : (s.envEvents es).env = s.env := by
  induction es generalizing s with
  | nil => rfl
  | cons e es ih => rw [State.envEvents, ih, State.envEvent_env]

@[simp] theorem State.envEvents_out (s : State) (es : List EnvEvent) : (s.envEvents es).out = s.out := by
  induction es generalizing s with
  | nil => rfl
  | cons e es ih => rw [State.envEvents, ih, State.envEvent_out]

theorem State.envEvents_busState (s : State) (es : List EnvEvent) :
    (s.envEvents es).busState = busChanges s.busState (es.filterMap EnvEvent.busPart) := by
  induction es generalizing s with
  | nil => rfl
  | cons e es ih =>
    rw [State.envEvents, ih]
    cases e <;> rfl

/-- `EnvAdvance` takes one entry of the list, or none where the list has ended. -/
@[simp] theorem State.envAdvance_env (s : State) : s.envAdvance.env = s.env.drop 1 := by
  unfold State.envAdvance
  split
  · next h => rw [h]; rfl
  · next h => rw [h, State.envEvents_env]; rfl

@[simp] theorem State.envAdvance_out (s : State) : s.envAdvance.out = s.out := by
  unfold State.envAdvance
  split
  · rfl
  · rw [State.envEvents_out]; rfl

@[simp] theorem State.afterStep_params (s : State) : s.afterStep.params = s.params := by
  unfold State.afterStep
  dsimp only
  split
  · rw [State.envAdvance_params, State.setOut_params, State.interruptCheck_params, State.envAdvance_params]
  · rw [State.setOut_params, State.interruptCheck_params, State.envAdvance_params]

theorem inv_interruptCheck {s : State} (h : s.Inv) : s.interruptCheck.2.Inv := by
  obtain ⟨hm, hf, hc⟩ := h
  unfold State.interruptCheck
  split
  · split
    · exact ⟨hm, hf, hc⟩
    · refine ⟨?_, by simpa [State.readPending] using hf, by simpa [State.readPending] using hc⟩
      rw [State.dispatch_busState]
      exact memWf_busWrite _ _ (memWf_busWrite _ _ (memWf_busWrite _ _ hm))
  · split
    · split <;> exact ⟨hm, hf, hc⟩
    · exact ⟨hm, hf, hc⟩

theorem inv_envEvents (es : List EnvEvent) {s : State} (h : s.Inv) : (s.envEvents es).Inv := by
  induction es generalizing s with
  | nil => exact h
  | cons e es ih =>
    apply ih
    cases e with
    | bus c => exact ⟨memWf_busChange c h.1, h.2⟩
    | haltbugSet => exact h
    | reset => exact ⟨h.1, and_F0_and_0F _, rfl⟩

theorem inv_envAdvance {s : State} (h : s.Inv) : s.envAdvance.Inv := by
  unfold State.envAdvance
  split
  · exact h
  · exact inv_envEvents _ h

theorem inv_afterStep {s : State} (h : s.Inv) : s.afterStep.Inv := by
  have hi := inv_interruptCheck (inv_envAdvance h)
  unfold State.afterStep
  dsimp only
  split
  · exact inv_envAdvance hi
  · exact hi

end Sys2Proof.Machine
end

