-- ==== Sys2Proof/Laws/Exec.lean ====
section
/-! SUPPORT. Everything `exec` can do, said once: a property of an instruction, a state and what `exec` answers holds
of all of them when it holds of each shape of instruction. -/
namespace Sys2Proof.Machine

/-- `P i s r` for every shape of instruction `i` and the answer `r` its meaning gives in `s`. -/
structure ExecCases (P : Instr → State → StepResult → Prop) : Prop where
  alu : ∀ (op : Alu) (r : R8) (s : State), P (rowAlu op r) s (.next (s.aluR8 op r))
  aluImm : ∀ (op : Alu) (v : Byte) (s : State), P (rowAluImm op v) s (.next (s.aluA op v))
  inc8 : ∀ (r : R8) (s : State), P (rowInc8 r) s (.next (s.incR8 r))
  dec8 : ∀ (r : R8) (s : State), P (rowDec8 r) s (.next (s.decR8 r))
  daa : ∀ (s : State), P (.daa) s (.next s.daaA)
  cpl : ∀ (s : State), P (.cpl) s (.next s.cplA)
  scf : ∀ (s : State), P (.scf) s (.next s.scfF)
  ccf : ∀ (s : State), P (.ccf) s (.next s.ccfF)
  addHl : ∀ (p : Rp) (s : State), P (rowAddHl p) s (.next (s.addHlRp p))
  inc16 : ∀ (p : Rp) (s : State), P (rowInc16 p) s (.next (s.incRp p))
  dec16 : ∀ (p : Rp) (s : State), P (rowDec16 p) s (.next (s.decRp p))
  addSp : ∀ (e : Byte) (s : State), P (.addSpE8 e) s (.next (s.addSpE e))
  rlca : ∀ (s : State), P (.rlca) s (.next (s.rotA .rlc))
  rrca : ∀ (s : State), P (.rrca) s (.next (s.rotA .rrc))
  rla : ∀ (s : State), P (.rla) s (.next (s.rotA .rl))
  rra : ∀ (s : State), P (.rra) s (.next (s.rotA .rr))
  prefixed : ∀ (s : State), P (.prefixCb) s (.next s.prefixed)
  rot : ∀ (k : Rot) (r : R8) (s : State), P (rowRot k r) s (.next (s.rotR8 k r))
  bit : ∀ (b : Octal) (r : R8) (s : State), P (rowBit b r) s (.next (s.bitR8 b r))
  res : ∀ (b : Octal) (r : R8) (s : State), P (rowRes b r) s (.next (s.resR8 b r))
  setb : ∀ (b : Octal) (r : R8) (s : State), P (rowSet b r) s (.next (s.setBitR8 b r))
  jp : ∀ (w : Word) (s : State), P (.jpA16 w) s (.next (s.setPc w))
  jpCond : ∀ (cc : Cond) (w : Word) (s : State), P (rowJp cc w) s (.next (s.jpCond cc w))
  jpHl : ∀ (s : State), P (.jpHl) s (.next (s.setPc s.hl))
  jr : ∀ (e : Byte) (s : State), P (.jrE8 e) s (.next (s.jr e))
  jrCond : ∀ (cc : Cond) (e : Byte) (s : State), P (rowJr cc e) s (.next (s.jrCond cc e))
  call : ∀ (w : Word) (s : State), P (.callA16 w) s (.next (s.call w))
  callCond : ∀ (cc : Cond) (w : Word) (s : State), P (rowCall cc w) s (.next (s.callCond cc w))
  ret : ∀ (s : State), P (.ret) s (.next s.ret)
  retCond : ∀ (cc : Cond) (s : State), P (rowRet cc) s (.next (s.retCond cc))
  reti : ∀ (s : State), P (.reti) s (.next s.returnFromInterrupt)
  rst : ∀ (t : Octal) (s : State), P (rowRst t) s (.next (s.rst t))
  ld : ∀ (dst r : R8) (_hne : (dst, r) ≠ (.memHl, .memHl)) (s : State), P (rowLd dst r) s (.next (s.ldR8 dst r))
  ldImm8 : ∀ (dst : R8) (v : Byte) (s : State), P (rowLdImm8 dst v) s (.next (s.setR8 dst v))
  ldABc : ∀ (s : State), P (.ldAMemBc) s (.next (s.ldA s.bc))
  ldADe : ∀ (s : State), P (.ldAMemDe) s (.next (s.ldA s.de))
  stABc : ∀ (s : State), P (.ldMemBcA) s (.next (s.stA s.bc))
  stADe : ∀ (s : State), P (.ldMemDeA) s (.next (s.stA s.de))
  ldAAbs : ∀ (w : Word) (s : State), P (.ldAMemA16 w) s (.next (s.ldA w))
  stAAbs : ∀ (w : Word) (s : State), P (.ldMemA16A w) s (.next (s.stA w))
  stAHlInc : ∀ (s : State), P (.ldMemHlIncA) s (.next (s.stAHlStep 1))
  ldAHlInc : ∀ (s : State), P (.ldAMemHlInc) s (.next (s.ldAHlStep 1))
  stAHlDec : ∀ (s : State), P (.ldMemHlDecA) s (.next (s.stAHlStep (-1)))
  ldAHlDec : ∀ (s : State), P (.ldAMemHlDec) s (.next (s.ldAHlStep (-1)))
  stAHigh : ∀ (v : Byte) (s : State), P (.ldhMemA8A v) s (.next (s.stA (highAddr v)))
  ldAHigh : ∀ (v : Byte) (s : State), P (.ldhAMemA8 v) s (.next (s.ldA (highAddr v)))
  stAC : ∀ (s : State), P (.ldMemCA) s (.next (s.stA (highAddr s.c)))
  ldAC : ∀ (s : State), P (.ldAMemC) s (.next (s.ldA (highAddr s.c)))
  ldImm16 : ∀ (p : Rp) (w : Word) (s : State), P (rowLdImm16 p w) s (.next (s.setRp p w))
  stSp : ∀ (w : Word) (s : State), P (.ldMemA16Sp w) s (.next (s.memWrite16 w s.sp))
  ldSpHl : ∀ (s : State), P (.ldSpHl) s (.next (s.setSp s.hl))
  ldHlSp : ∀ (e : Byte) (s : State), P (.ldHlSpE8 e) s (.next (s.ldHlSpE e))
  push : ∀ (p : Rp2) (s : State), P (rowPush p) s (.next (s.push p))
  pop : ∀ (p : Rp2) (s : State), P (rowPop p) s (.next (s.pop p))
  nop : ∀ (s : State), P (.nop) s (.next s)
  halt : ∀ (s : State), P (.halt) s (.next s.halt)
  di : ∀ (s : State), P (.di) s (.next (s.setIme false))
  ei : ∀ (s : State), P (.ei) s (.next (s.setIme true))
  stop : ∀ (v : Byte) (s : State), P (.stop v) s (s.stopBy)
  invalid : ∀ (x : Instr × Byte) (_hx : x ∈ invalidRows) (s : State), P (x.1) s (s.raiseInvalid x.2)

/-- What holds of every shape of instruction holds of every instruction. -/
theorem exec_cases {P : Instr → State → StepResult → Prop} (h : ExecCases P) (i : Instr) (s : State) :
    P i s (exec i s) := by
  cases i with
  | ldBcD16 v => exact h.ldImm16 .bc v s
  | ldBD8 v => exact h.ldImm8 .b v s
  | ldMemA16Sp v => exact h.stSp v s
  | ldCD8 v => exact h.ldImm8 .c v s
  | stop v => exact h.stop v s
  | ldDeD16 v => exact h.ldImm16 .de v s
  | ldDD8 v => exact h.ldImm8 .d v s
  | jrE8 v => exact h.jr v s
  | ldED8 v => exact h.ldImm8 .e v s
  | jrNzE8 v => exact h.jrCond .nz v s
  | ldHlD16 v => exact h.ldImm16 .hl v s
  | ldHD8 v => exact h.ldImm8 .h v s
  | jrZE8 v => exact h.jrCond .z v s
  | ldLD8 v => exact h.ldImm8 .l v s
  | jrNcE8 v => exact h.jrCond .nc v s
  | ldSpD16 v => exact h.ldImm16 .sp v s
  | ldMemHlD8 v => exact h.ldImm8 .memHl v s
  | jrCE8 v => exact h.jrCond .c v s
  | ldAD8 v => exact h.ldImm8 .a v s
  | jpNzA16 v => exact h.jpCond .nz v s
  | jpA16 v => exact h.jp v s
  | callNzA16 v => exact h.callCond .nz v s
  | addAD8 v => exact h.aluImm .add v s
  | jpZA16 v => exact h.jpCond .z v s
  | callZA16 v => exact h.callCond .z v s
  | callA16 v => exact h.call v s
  | adcAD8 v => exact h.aluImm .adc v s
  | jpNcA16 v => exact h.jpCond .nc v s
  | callNcA16 v => exact h.callCond .nc v s
  | subD8 v => exact h.aluImm .sub v s
  | jpCA16 v => exact h.jpCond .c v s
  | callCA16 v => exact h.callCond .c v s
  | sbcAD8 v => exact h.aluImm .sbc v s
  | ldhMemA8A v => exact h.stAHigh v s
  | andD8 v => exact h.aluImm .and v s
  | addSpE8 v => exact h.addSp v s
  | ldMemA16A v => exact h.stAAbs v s
  | xorD8 v => exact h.aluImm .xor v s
  | ldhAMemA8 v => exact h.ldAHigh v s
  | orD8 v => exact h.aluImm .or v s
  | ldHlSpE8 v => exact h.ldHlSp v s
  | ldAMemA16 v => exact h.ldAAbs v s
  | cpD8 v => exact h.aluImm .cp v s
  | nop => exact h.nop s
  | ldMemBcA => exact h.stABc s
  | incBc => exact h.inc16 .bc s
  | incB => exact h.inc8 .b s
  | decB => exact h.dec8 .b s
  | rlca => exact h.rlca s
  | addHlBc => exact h.addHl .bc s
  | ldAMemBc => exact h.ldABc s
  | decBc => exact h.dec16 .bc s
  | incC => exact h.inc8 .c s
  | decC => exact h.dec8 .c s
  | rrca => exact h.rrca s
  | ldMemDeA => exact h.stADe s
  | incDe => exact h.inc16 .de s
  | incD => exact h.inc8 .d s
  | decD => exact h.dec8 .d s
  | rla => exact h.rla s
  | addHlDe => exact h.addHl .de s
  | ldAMemDe => exact h.ldADe s
  | decDe => exact h.dec16 .de s
  | incE => exact h.inc8 .e s
  | decE => exact h.dec8 .e s
  | rra => exact h.rra s
  | ldMemHlIncA => exact h.stAHlInc s
  | incHl => exact h.inc16 .hl s
  | incH => exact h.inc8 .h s
  | decH => exact h.dec8 .h s
  | daa => exact h.daa s
  | addHlHl => exact h.addHl .hl s
  | ldAMemHlInc => exact h.ldAHlInc s
  | decHl => exact h.dec16 .hl s
  | incL => exact h.inc8 .l s
  | decL => exact h.dec8 .l s
  | cpl => exact h.cpl s
  | ldMemHlDecA => exact h.stAHlDec s
  | incSp => exact h.inc16 .sp s
  | incMemHl => exact h.inc8 .memHl s
  | decMemHl => exact h.dec8 .memHl s
  | scf => exact h.scf s
  | addHlSp => exact h.addHl .sp s
  | ldAMemHlDec => exact h.ldAHlDec s
  | decSp => exact h.dec16 .sp s
  | incA => exact h.inc8 .a s
  | decA => exact h.dec8 .a s
  | ccf => exact h.ccf s
  | ldBB => exact h.ld .b .b (by decide) s
  | ldBC => exact h.ld .b .c (by decide) s
  | ldBD => exact h.ld .b .d (by decide) s
  | ldBE => exact h.ld .b .e (by decide) s
  | ldBH => exact h.ld .b .h (by decide) s
  | ldBL => exact h.ld .b .l (by decide) s
  | ldBMemHl => exact h.ld .b .memHl (by decide) s
  | ldBA => exact h.ld .b .a (by decide) s
  | ldCB => exact h.ld .c .b (by decide) s
  | ldCC => exact h.ld .c .c (by decide) s
  | ldCD => exact h.ld .c .d (by decide) s
  | ldCE => exact h.ld .c .e (by decide) s
  | ldCH => exact h.ld .c .h (by decide) s
  | ldCL => exact h.ld .c .l (by decide) s
  | ldCMemHl => exact h.ld .c .memHl (by decide) s
  | ldCA => exact h.ld .c .a (by decide) s
  | ldDB => exact h.ld .d .b (by decide) s
  | ldDC => exact h.ld .d .c (by decide) s
  | ldDD => exact h.ld .d .d (by decide) s
  | ldDE => exact h.ld .d .e (by decide) s
  | ldDH => exact h.ld .d .h (by decide) s
  | ldDL => exact h.ld .d .l (by decide) s
  | ldDMemHl => exact h.ld .d .memHl (by decide) s
  | ldDA => exact h.ld .d .a (by decide) s
  | ldEB => exact h.ld .e .b (by decide) s
  | ldEC => exact h.ld .e .c (by decide) s
  | ldED => exact h.ld .e .d (by decide) s
  | ldEE => exact h.ld .e .e (by decide) s
  | ldEH => exact h.ld .e .h (by decide) s
  | ldEL => exact h.ld .e .l (by decide) s
  | ldEMemHl => exact h.ld .e .memHl (by decide) s
  | ldEA => exact h.ld .e .a (by decide) s
  | ldHB => exact h.ld .h .b (by decide) s
  | ldHC => exact h.ld .h .c (by decide) s
  | ldHD => exact h.ld .h .d (by decide) s
  | ldHE => exact h.ld .h .e (by decide) s
  | ldHH => exact h.ld .h .h (by decide) s
  | ldHL => exact h.ld .h .l (by decide) s
  | ldHMemHl => exact h.ld .h .memHl (by decide) s
  | ldHA => exact h.ld .h .a (by decide) s
  | ldLB => exact h.ld .l .b (by decide) s
  | ldLC => exact h.ld .l .c (by decide) s
  | ldLD => exact h.ld .l .d (by decide) s
  | ldLE => exact h.ld .l .e (by decide) s
  | ldLH => exact h.ld .l .h (by decide) s
  | ldLL => exact h.ld .l .l (by decide) s
  | ldLMemHl => exact h.ld .l .memHl (by decide) s
  | ldLA => exact h.ld .l .a (by decide) s
  | ldMemHlB => exact h.ld .memHl .b (by decide) s
  | ldMemHlC => exact h.ld .memHl .c (by decide) s
  | ldMemHlD => exact h.ld .memHl .d (by decide) s
  | ldMemHlE => exact h.ld .memHl .e (by decide) s
  | ldMemHlH => exact h.ld .memHl .h (by decide) s
  | ldMemHlL => exact h.ld .memHl .l (by decide) s
  | halt => exact h.halt s
  | ldMemHlA => exact h.ld .memHl .a (by decide) s
  | ldAB => exact h.ld .a .b (by decide) s
  | ldAC => exact h.ld .a .c (by decide) s
  | ldAD => exact h.ld .a .d (by decide) s
  | ldAE => exact h.ld .a .e (by decide) s
  | ldAH => exact h.ld .a .h (by decide) s
  | ldAL => exact h.ld .a .l (by decide) s
  | ldAMemHl => exact h.ld .a .memHl (by decide) s
  | ldAA => exact h.ld .a .a (by decide) s
  | addAB => exact h.alu .add .b s
  | addAC => exact h.alu .add .c s
  | addAD => exact h.alu .add .d s
  | addAE => exact h.alu .add .e s
  | addAH => exact h.alu .add .h s
  | addAL => exact h.alu .add .l s
  | addAMemHl => exact h.alu .add .memHl s
  | addAA => exact h.alu .add .a s
  | adcAB => exact h.alu .adc .b s
  | adcAC => exact h.alu .adc .c s
  | adcAD => exact h.alu .adc .d s
  | adcAE => exact h.alu .adc .e s
  | adcAH => exact h.alu .adc .h s
  | adcAL => exact h.alu .adc .l s
  | adcAMemHl => exact h.alu .adc .memHl s
  | adcAA => exact h.alu .adc .a s
  | subB => exact h.alu .sub .b s
  | subC => exact h.alu .sub .c s
  | subD => exact h.alu .sub .d s
  | subE => exact h.alu .sub .e s
  | subH => exact h.alu .sub .h s
  | subL => exact h.alu .sub .l s
  | subMemHl => exact h.alu .sub .memHl s
  | subA => exact h.alu .sub .a s
  | sbcAB => exact h.alu .sbc .b s
  | sbcAC => exact h.alu .sbc .c s
  | sbcAD => exact h.alu .sbc .d s
  | sbcAE => exact h.alu .sbc .e s
  | sbcAH => exact h.alu .sbc .h s
  | sbcAL => exact h.alu .sbc .l s
  | sbcAMemHl => exact h.alu .sbc .memHl s
  | sbcAA => exact h.alu .sbc .a s
  | andB => exact h.alu .and .b s
  | andC => exact h.alu .and .c s
  | andD => exact h.alu .and .d s
  | andE => exact h.alu .and .e s
  | andH => exact h.alu .and .h s
  | andL => exact h.alu .and .l s
  | andMemHl => exact h.alu .and .memHl s
  | andA => exact h.alu .and .a s
  | xorB => exact h.alu .xor .b s
  | xorC => exact h.alu .xor .c s
  | xorD => exact h.alu .xor .d s
  | xorE => exact h.alu .xor .e s
  | xorH => exact h.alu .xor .h s
  | xorL => exact h.alu .xor .l s
  | xorMemHl => exact h.alu .xor .memHl s
  | xorA => exact h.alu .xor .a s
  | orB => exact h.alu .or .b s
  | orC => exact h.alu .or .c s
  | orD => exact h.alu .or .d s
  | orE => exact h.alu .or .e s
  | orH => exact h.alu .or .h s
  | orL => exact h.alu .or .l s
  | orMemHl => exact h.alu .or .memHl s
  | orA => exact h.alu .or .a s
  | cpB => exact h.alu .cp .b s
  | cpC => exact h.alu .cp .c s
  | cpD => exact h.alu .cp .d s
  | cpE => exact h.alu .cp .e s
  | cpH => exact h.alu .cp .h s
  | cpL => exact h.alu .cp .l s
  | cpMemHl => exact h.alu .cp .memHl s
  | cpA => exact h.alu .cp .a s
  | retNz => exact h.retCond .nz s
  | popBc => exact h.pop .bc s
  | pushBc => exact h.push .bc s
  | rst00H => exact h.rst .n0 s
  | retZ => exact h.retCond .z s
  | ret => exact h.ret s
  | prefixCb => exact h.prefixed s
  | rst08H => exact h.rst .n1 s
  | retNc => exact h.retCond .nc s
  | popDe => exact h.pop .de s
  | invalidD3 => exact h.invalid (.invalidD3, 0xD3) (by decide) s
  | pushDe => exact h.push .de s
  | rst10H => exact h.rst .n2 s
  | retC => exact h.retCond .c s
  | reti => exact h.reti s
  | invalidDB => exact h.invalid (.invalidDB, 0xDB) (by decide) s
  | invalidDD => exact h.invalid (.invalidDD, 0xDD) (by decide) s
  | rst18H => exact h.rst .n3 s
  | popHl => exact h.pop .hl s
  | ldMemCA => exact h.stAC s
  | invalidE3 => exact h.invalid (.invalidE3, 0xE3) (by decide) s
  | invalidE4 => exact h.invalid (.invalidE4, 0xE4) (by decide) s
  | pushHl => exact h.push .hl s
  | rst20H => exact h.rst .n4 s
  | jpHl => exact h.jpHl s
  | invalidEB => exact h.invalid (.invalidEB, 0xEB) (by decide) s
  | invalidEC => exact h.invalid (.invalidEC, 0xEC) (by decide) s
  | invalidED => exact h.invalid (.invalidED, 0xED) (by decide) s
  | rst28H => exact h.rst .n5 s
  | popAf => exact h.pop .af s
  | ldAMemC => exact h.ldAC s
  | di => exact h.di s
  | invalidF4 => exact h.invalid (.invalidF4, 0xF4) (by decide) s
  | pushAf => exact h.push .af s
  | rst30H => exact h.rst .n6 s
  | ldSpHl => exact h.ldSpHl s
  | ei => exact h.ei s
  | invalidFC => exact h.invalid (.invalidFC, 0xFC) (by decide) s
  | invalidFD => exact h.invalid (.invalidFD, 0xFD) (by decide) s
  | rst38H => exact h.rst .n7 s
  | rlcB => exact h.rot .rlc .b s
  | rlcC => exact h.rot .rlc .c s
  | rlcD => exact h.rot .rlc .d s
  | rlcE => exact h.rot .rlc .e s
  | rlcH => exact h.rot .rlc .h s
  | rlcL => exact h.rot .rlc .l s
  | rlcMemHl => exact h.rot .rlc .memHl s
  | rlcA => exact h.rot .rlc .a s
  | rrcB => exact h.rot .rrc .b s
  | rrcC => exact h.rot .rrc .c s
  | rrcD => exact h.rot .rrc .d s
  | rrcE => exact h.rot .rrc .e s
  | rrcH => exact h.rot .rrc .h s
  | rrcL => exact h.rot .rrc .l s
  | rrcMemHl => exact h.rot .rrc .memHl s
  | rrcA => exact h.rot .rrc .a s
  | rlB => exact h.rot .rl .b s
  | rlC => exact h.rot .rl .c s
  | rlD => exact h.rot .rl .d s
  | rlE => exact h.rot .rl .e s
  | rlH => exact h.rot .rl .h s
  | rlL => exact h.rot .rl .l s
  | rlMemHl => exact h.rot .rl .memHl s
  | rlA => exact h.rot .rl .a s
  | rrB => exact h.rot .rr .b s
  | rrC => exact h.rot .rr .c s
  | rrD => exact h.rot .rr .d s
  | rrE => exact h.rot .rr .e s
  | rrH => exact h.rot .rr .h s
  | rrL => exact h.rot .rr .l s
  | rrMemHl => exact h.rot .rr .memHl s
  | rrA => exact h.rot .rr .a s
  | slaB => exact h.rot .sla .b s
  | slaC => exact h.rot .sla .c s
  | slaD => exact h.rot .sla .d s
  | slaE => exact h.rot .sla .e s
  | slaH => exact h.rot .sla .h s
  | slaL => exact h.rot .sla .l s
  | slaMemHl => exact h.rot .sla .memHl s
  | slaA => exact h.rot .sla .a s
  | sraB => exact h.rot .sra .b s
  | sraC => exact h.rot .sra .c s
  | sraD => exact h.rot .sra .d s
  | sraE => exact h.rot .sra .e s
  | sraH => exact h.rot .sra .h s
  | sraL => exact h.rot .sra .l s
  | sraMemHl => exact h.rot .sra .memHl s
  | sraA => exact h.rot .sra .a s
  | swapB => exact h.rot .swap .b s
  | swapC => exact h.rot .swap .c s
  | swapD => exact h.rot .swap .d s
  | swapE => exact h.rot .swap .e s
  | swapH => exact h.rot .swap .h s
  | swapL => exact h.rot .swap .l s
  | swapMemHl => exact h.rot .swap .memHl s
  | swapA => exact h.rot .swap .a s
  | srlB => exact h.rot .srl .b s
  | srlC => exact h.rot .srl .c s
  | srlD => exact h.rot .srl .d s
  | srlE => exact h.rot .srl .e s
  | srlH => exact h.rot .srl .h s
  | srlL => exact h.rot .srl .l s
  | srlMemHl => exact h.rot .srl .memHl s
  | srlA => exact h.rot .srl .a s
  | bit0B => exact h.bit .n0 .b s
  | bit0C => exact h.bit .n0 .c s
  | bit0D => exact h.bit .n0 .d s
  | bit0E => exact h.bit .n0 .e s
  | bit0H => exact h.bit .n0 .h s
  | bit0L => exact h.bit .n0 .l s
  | bit0MemHl => exact h.bit .n0 .memHl s
  | bit0A => exact h.bit .n0 .a s
  | bit1B => exact h.bit .n1 .b s
  | bit1C => exact h.bit .n1 .c s
  | bit1D => exact h.bit .n1 .d s
  | bit1E => exact h.bit .n1 .e s
  | bit1H => exact h.bit .n1 .h s
  | bit1L => exact h.bit .n1 .l s
  | bit1MemHl => exact h.bit .n1 .memHl s
  | bit1A => exact h.bit .n1 .a s
  | bit2B => exact h.bit .n2 .b s
  | bit2C => exact h.bit .n2 .c s
  | bit2D => exact h.bit .n2 .d s
  | bit2E => exact h.bit .n2 .e s
  | bit2H => exact h.bit .n2 .h s
  | bit2L => exact h.bit .n2 .l s
  | bit2MemHl => exact h.bit .n2 .memHl s
  | bit2A => exact h.bit .n2 .a s
  | bit3B => exact h.bit .n3 .b s
  | bit3C => exact h.bit .n3 .c s
  | bit3D => exact h.bit .n3 .d s
  | bit3E => exact h.bit .n3 .e s
  | bit3H => exact h.bit .n3 .h s
  | bit3L => exact h.bit .n3 .l s
  | bit3MemHl => exact h.bit .n3 .memHl s
  | bit3A => exact h.bit .n3 .a s
  | bit4B => exact h.bit .n4 .b s
  | bit4C => exact h.bit .n4 .c s
  | bit4D => exact h.bit .n4 .d s
  | bit4E => exact h.bit .n4 .e s
  | bit4H => exact h.bit .n4 .h s
  | bit4L => exact h.bit .n4 .l s
  | bit4MemHl => exact h.bit .n4 .memHl s
  | bit4A => exact h.bit .n4 .a s
  | bit5B => exact h.bit .n5 .b s
  | bit5C => exact h.bit .n5 .c s
  | bit5D => exact h.bit .n5 .d s
  | bit5E => exact h.bit .n5 .e s
  | bit5H => exact h.bit .n5 .h s
  | bit5L => exact h.bit .n5 .l s
  | bit5MemHl => exact h.bit .n5 .memHl s
  | bit5A => exact h.bit .n5 .a s
  | bit6B => exact h.bit .n6 .b s
  | bit6C => exact h.bit .n6 .c s
  | bit6D => exact h.bit .n6 .d s
  | bit6E => exact h.bit .n6 .e s
  | bit6H => exact h.bit .n6 .h s
  | bit6L => exact h.bit .n6 .l s
  | bit6MemHl => exact h.bit .n6 .memHl s
  | bit6A => exact h.bit .n6 .a s
  | bit7B => exact h.bit .n7 .b s
  | bit7C => exact h.bit .n7 .c s
  | bit7D => exact h.bit .n7 .d s
  | bit7E => exact h.bit .n7 .e s
  | bit7H => exact h.bit .n7 .h s
  | bit7L => exact h.bit .n7 .l s
  | bit7MemHl => exact h.bit .n7 .memHl s
  | bit7A => exact h.bit .n7 .a s
  | res0B => exact h.res .n0 .b s
  | res0C => exact h.res .n0 .c s
  | res0D => exact h.res .n0 .d s
  | res0E => exact h.res .n0 .e s
  | res0H => exact h.res .n0 .h s
  | res0L => exact h.res .n0 .l s
  | res0MemHl => exact h.res .n0 .memHl s
  | res0A => exact h.res .n0 .a s
  | res1B => exact h.res .n1 .b s
  | res1C => exact h.res .n1 .c s
  | res1D => exact h.res .n1 .d s
  | res1E => exact h.res .n1 .e s
  | res1H => exact h.res .n1 .h s
  | res1L => exact h.res .n1 .l s
  | res1MemHl => exact h.res .n1 .memHl s
  | res1A => exact h.res .n1 .a s
  | res2B => exact h.res .n2 .b s
  | res2C => exact h.res .n2 .c s
  | res2D => exact h.res .n2 .d s
  | res2E => exact h.res .n2 .e s
  | res2H => exact h.res .n2 .h s
  | res2L => exact h.res .n2 .l s
  | res2MemHl => exact h.res .n2 .memHl s
  | res2A => exact h.res .n2 .a s
  | res3B => exact h.res .n3 .b s
  | res3C => exact h.res .n3 .c s
  | res3D => exact h.res .n3 .d s
  | res3E => exact h.res .n3 .e s
  | res3H => exact h.res .n3 .h s
  | res3L => exact h.res .n3 .l s
  | res3MemHl => exact h.res .n3 .memHl s
  | res3A => exact h.res .n3 .a s
  | res4B => exact h.res .n4 .b s
  | res4C => exact h.res .n4 .c s
  | res4D => exact h.res .n4 .d s
  | res4E => exact h.res .n4 .e s
  | res4H => exact h.res .n4 .h s
  | res4L => exact h.res .n4 .l s
  | res4MemHl => exact h.res .n4 .memHl s
  | res4A => exact h.res .n4 .a s
  | res5B => exact h.res .n5 .b s
  | res5C => exact h.res .n5 .c s
  | res5D => exact h.res .n5 .d s
  | res5E => exact h.res .n5 .e s
  | res5H => exact h.res .n5 .h s
  | res5L => exact h.res .n5 .l s
  | res5MemHl => exact h.res .n5 .memHl s
  | res5A => exact h.res .n5 .a s
  | res6B => exact h.res .n6 .b s
  | res6C => exact h.res .n6 .c s
  | res6D => exact h.res .n6 .d s
  | res6E => exact h.res .n6 .e s
  | res6H => exact h.res .n6 .h s
  | res6L => exact h.res .n6 .l s
  | res6MemHl => exact h.res .n6 .memHl s
  | res6A => exact h.res .n6 .a s
  | res7B => exact h.res .n7 .b s
  | res7C => exact h.res .n7 .c s
  | res7D => exact h.res .n7 .d s
  | res7E => exact h.res .n7 .e s
  | res7H => exact h.res .n7 .h s
  | res7L => exact h.res .n7 .l s
  | res7MemHl => exact h.res .n7 .memHl s
  | res7A => exact h.res .n7 .a s
  | set0B => exact h.setb .n0 .b s
  | set0C => exact h.setb .n0 .c s
  | set0D => exact h.setb .n0 .d s
  | set0E => exact h.setb .n0 .e s
  | set0H => exact h.setb .n0 .h s
  | set0L => exact h.setb .n0 .l s
  | set0MemHl => exact h.setb .n0 .memHl s
  | set0A => exact h.setb .n0 .a s
  | set1B => exact h.setb .n1 .b s
  | set1C => exact h.setb .n1 .c s
  | set1D => exact h.setb .n1 .d s
  | set1E => exact h.setb .n1 .e s
  | set1H => exact h.setb .n1 .h s
  | set1L => exact h.setb .n1 .l s
  | set1MemHl => exact h.setb .n1 .memHl s
  | set1A => exact h.setb .n1 .a s
  | set2B => exact h.setb .n2 .b s
  | set2C => exact h.setb .n2 .c s
  | set2D => exact h.setb .n2 .d s
  | set2E => exact h.setb .n2 .e s
  | set2H => exact h.setb .n2 .h s
  | set2L => exact h.setb .n2 .l s
  | set2MemHl => exact h.setb .n2 .memHl s
  | set2A => exact h.setb .n2 .a s
  | set3B => exact h.setb .n3 .b s
  | set3C => exact h.setb .n3 .c s
  | set3D => exact h.setb .n3 .d s
  | set3E => exact h.setb .n3 .e s
  | set3H => exact h.setb .n3 .h s
  | set3L => exact h.setb .n3 .l s
  | set3MemHl => exact h.setb .n3 .memHl s
  | set3A => exact h.setb .n3 .a s
  | set4B => exact h.setb .n4 .b s
  | set4C => exact h.setb .n4 .c s
  | set4D => exact h.setb .n4 .d s
  | set4E => exact h.setb .n4 .e s
  | set4H => exact h.setb .n4 .h s
  | set4L => exact h.setb .n4 .l s
  | set4MemHl => exact h.setb .n4 .memHl s
  | set4A => exact h.setb .n4 .a s
  | set5B => exact h.setb .n5 .b s
  | set5C => exact h.setb .n5 .c s
  | set5D => exact h.setb .n5 .d s
  | set5E => exact h.setb .n5 .e s
  | set5H => exact h.setb .n5 .h s
  | set5L => exact h.setb .n5 .l s
  | set5MemHl => exact h.setb .n5 .memHl s
  | set5A => exact h.setb .n5 .a s
  | set6B => exact h.setb .n6 .b s
  | set6C => exact h.setb .n6 .c s
  | set6D => exact h.setb .n6 .d s
  | set6E => exact h.setb .n6 .e s
  | set6H => exact h.setb .n6 .h s
  | set6L => exact h.setb .n6 .l s
  | set6MemHl => exact h.setb .n6 .memHl s
  | set6A => exact h.setb .n6 .a s
  | set7B => exact h.setb .n7 .b s
  | set7C => exact h.setb .n7 .c s
  | set7D => exact h.setb .n7 .d s
  | set7E => exact h.setb .n7 .e s
  | set7H => exact h.setb .n7 .h s
  | set7L => exact h.setb .n7 .l s
  | set7MemHl => exact h.setb .n7 .memHl s
  | set7A => exact h.setb .n7 .a s

/-- Under parameters that stop nothing, STOP has a next state (44_interrupt_halt_misc.md R254). -/
theorem stopBy_next {s : State} (h : s.params.invalidOpcode = .nop) (hs : s.params.stop ≠ .refuse) :
    ∃ t, s.stopBy = .next t := by
  unfold State.stopBy State.raiseInvalid
  rw [h]
  cases hp : s.params.stop
  · exact absurd hp hs
  · exact ⟨_, rfl⟩
  · exact ⟨_, rfl⟩

end Sys2Proof.Machine
end

