-- ==== Sys2Proof/Laws/Step.lean ====
section
/-! SUPPORT. Fetching, said once field by field, and everything a step can do. -/
namespace Sys2Proof.Machine

/-! ### The opcode fetch -/

@[simp] theorem State.fetchOpcode_fst (s : State) : s.fetchOpcode.1 = s.peek s.pc := by
  unfold State.fetchOpcode; dsimp only; split <;> rfl

@[simp] theorem State.fetchOpcode_snd_a (s : State) : s.fetchOpcode.2.a = s.a := by
  unfold State.fetchOpcode; dsimp only; split <;> simp

@[simp] theorem State.fetchOpcode_snd_b (s : State) : s.fetchOpcode.2.b = s.b := by
  unfold State.fetchOpcode; dsimp only; split <;> simp

@[simp] theorem State.fetchOpcode_snd_c (s : State) : s.fetchOpcode.2.c = s.c := by
  unfold State.fetchOpcode; dsimp only; split <;> simp

@[simp] theorem State.fetchOpcode_snd_d (s : State) : s.fetchOpcode.2.d = s.d := by
  unfold State.fetchOpcode; dsimp only; split <;> simp

@[simp] theorem State.fetchOpcode_snd_e (s : State) : s.fetchOpcode.2.e = s.e := by
  unfold State.fetchOpcode; dsimp only; split <;> simp

@[simp] theorem State.fetchOpcode_snd_h (s : State) : s.fetchOpcode.2.h = s.h := by
  unfold State.fetchOpcode; dsimp only; split <;> simp

@[simp] theorem State.fetchOpcode_snd_l (s : State) : s.fetchOpcode.2.l = s.l := by
  unfold State.fetchOpcode; dsimp only; split <;> simp

@[simp] theorem State.fetchOpcode_snd_f (s : State) : s.fetchOpcode.2.f = s.f := by
  unfold State.fetchOpcode; dsimp only; split <;> simp

@[simp] theorem State.fetchOpcode_snd_sp (s : State) : s.fetchOpcode.2.sp = s.sp := by
  unfold State.fetchOpcode; dsimp only; split <;> simp

@[simp] theorem State.fetchOpcode_snd_ime (s : State) : s.fetchOpcode.2.ime = s.ime := by
  unfold State.fetchOpcode; dsimp only; split <;> simp

@[simp] theorem State.fetchOpcode_snd_halted (s : State) : s.fetchOpcode.2.halted = s.halted := by
  unfold State.fetchOpcode; dsimp only; split <;> simp

@[simp] theorem State.fetchOpcode_snd_addcyc (s : State) : s.fetchOpcode.2.addcyc = s.addcyc := by
  unfold State.fetchOpcode; dsimp only; split <;> simp

@[simp] theorem State.fetchOpcode_snd_busState (s : State) : s.fetchOpcode.2.busState = s.busState := by
  unfold State.fetchOpcode; dsimp only; split <;> simp

@[simp] theorem State.fetchOpcode_snd_params (s : State) : s.fetchOpcode.2.params = s.params := by
  unfold State.fetchOpcode; dsimp only; split <;> simp

@[simp] theorem State.fetchOpcode_snd_env (s : State) : s.fetchOpcode.2.env = s.env := by
  unfold State.fetchOpcode; dsimp only; split <;> simp

@[simp] theorem State.fetchOpcode_snd_freeCount (s : State) : s.fetchOpcode.2.freeCount = s.freeCount := by
  unfold State.fetchOpcode; dsimp only; split <;> simp

@[simp] theorem State.fetchOpcode_snd_pc (s : State) :
    s.fetchOpcode.2.pc = if s.haltbug then s.pc else s.pc + 1 := by
  unfold State.fetchOpcode; dsimp only; split <;> simp [*]

@[simp] theorem State.fetchOpcode_snd_haltbug (s : State) : s.fetchOpcode.2.haltbug = false := by
  unfold State.fetchOpcode; dsimp only; split <;> simp_all

theorem State.fetchOpcode_bus (s : State) :
    s.fetchOpcode.2.out.bus = s.out.bus ++ [.read s.pc (s.peek s.pc)] := by
  unfold State.fetchOpcode; dsimp only; split <;> rfl

@[simp] theorem State.fetchOpcode_iaddr (s : State) : s.fetchOpcode.2.out.iaddr = s.out.iaddr := by
  unfold State.fetchOpcode; dsimp only; split <;> rfl

@[simp] theorem State.fetch8_iaddr (s : State) : s.fetch8.2.out.iaddr = s.out.iaddr := rfl

/-! ### The fetch of a whole instruction -/

@[simp] theorem State.fetch_op (s : State) : s.fetch.op = s.peek s.pc := by
  unfold State.fetch; dsimp only; split <;> exact s.fetchOpcode_fst

@[simp] theorem State.fetch_after_a (s : State) : s.fetch.after.a = s.a := by
  unfold State.fetch; dsimp only; split <;> simp

@[simp] theorem State.fetch_after_b (s : State) : s.fetch.after.b = s.b := by
  unfold State.fetch; dsimp only; split <;> simp

@[simp] theorem State.fetch_after_c (s : State) : s.fetch.after.c = s.c := by
  unfold State.fetch; dsimp only; split <;> simp

@[simp] theorem State.fetch_after_d (s : State) : s.fetch.after.d = s.d := by
  unfold State.fetch; dsimp only; split <;> simp

@[simp] theorem State.fetch_after_e (s : State) : s.fetch.after.e = s.e := by
  unfold State.fetch; dsimp only; split <;> simp

@[simp] theorem State.fetch_after_h (s : State) : s.fetch.after.h = s.h := by
  unfold State.fetch; dsimp only; split <;> simp

@[simp] theorem State.fetch_after_l (s : State) : s.fetch.after.l = s.l := by
  unfold State.fetch; dsimp only; split <;> simp

@[simp] theorem State.fetch_after_f (s : State) : s.fetch.after.f = s.f := by
  unfold State.fetch; dsimp only; split <;> simp

@[simp] theorem State.fetch_after_sp (s : State) : s.fetch.after.sp = s.sp := by
  unfold State.fetch; dsimp only; split <;> simp

@[simp] theorem State.fetch_after_ime (s : State) : s.fetch.after.ime = s.ime := by
  unfold State.fetch; dsimp only; split <;> simp

@[simp] theorem State.fetch_after_halted (s : State) : s.fetch.after.halted = s.halted := by
  unfold State.fetch; dsimp only; split <;> simp

@[simp] theorem State.fetch_after_addcyc (s : State) : s.fetch.after.addcyc = s.addcyc := by
  unfold State.fetch; dsimp only; split <;> simp

@[simp] theorem State.fetch_after_busState (s : State) : s.fetch.after.busState = s.busState := by
  unfold State.fetch; dsimp only; split <;> simp

@[simp] theorem State.fetch_after_params (s : State) : s.fetch.after.params = s.params := by
  unfold State.fetch; dsimp only; split <;> simp

@[simp] theorem State.fetch_after_env (s : State) : s.fetch.after.env = s.env := by
  unfold State.fetch; dsimp only; split <;> simp

@[simp] theorem State.fetch_after_freeCount (s : State) : s.fetch.after.freeCount = s.freeCount := by
  unfold State.fetch; dsimp only; split <;> simp

@[simp] theorem State.fetch_after_haltbug (s : State) : s.fetch.after.haltbug = false := by
  unfold State.fetch; dsimp only; split <;> simp

@[simp] theorem State.fetch_after_iaddr (s : State) : s.fetch.after.out.iaddr = s.out.iaddr := by
  unfold State.fetch; dsimp only; split <;> simp

/-- `fetch` of a one-byte instruction. -/
theorem State.fetch_one {s : State} (h : s.fetchLen (s.peek s.pc) = 1) :
    s.fetch = { op := s.peek s.pc, b1 := 0, b2 := 0, bytes := [s.peek s.pc], after := s.fetchOpcode.2 } := by
  unfold State.fetch; dsimp only; rw [State.fetchOpcode_fst, h]; rfl

/-- `fetch` of a two-byte instruction. -/
theorem State.fetch_two {s : State} (h : s.fetchLen (s.peek s.pc) = 2) :
    s.fetch =
      { op := s.peek s.pc, b1 := s.fetchOpcode.2.fetch8.1, b2 := 0
        bytes := [s.peek s.pc, s.fetchOpcode.2.fetch8.1], after := s.fetchOpcode.2.fetch8.2 } := by
  unfold State.fetch; dsimp only; rw [State.fetchOpcode_fst, h]; rfl

/-- `fetch` of a three-byte instruction. -/
theorem State.fetch_three {s : State} (h : s.fetchLen (s.peek s.pc) = 3) :
    s.fetch =
      { op := s.peek s.pc, b1 := s.fetchOpcode.2.fetch8.1, b2 := s.fetchOpcode.2.fetch8.2.fetch8.1
        bytes := [s.peek s.pc, s.fetchOpcode.2.fetch8.1, s.fetchOpcode.2.fetch8.2.fetch8.1]
        after := s.fetchOpcode.2.fetch8.2.fetch8.2 } := by
  unfold State.fetch; dsimp only; rw [State.fetchOpcode_fst, h]; rfl

/-! ### The state in which an instruction executes -/

@[simp] theorem State.atExec_a (s : State) : s.atExec.a = s.a := by
  simp [State.atExec, State.emitTrace, State.beginStep]

@[simp] theorem State.atExec_b (s : State) : s.atExec.b = s.b := by
  simp [State.atExec, State.emitTrace, State.beginStep]

@[simp] theorem State.atExec_c (s : State) : s.atExec.c = s.c := by
  simp [State.atExec, State.emitTrace, State.beginStep]

@[simp] theorem State.atExec_d (s : State) : s.atExec.d = s.d := by
  simp [State.atExec, State.emitTrace, State.beginStep]

@[simp] theorem State.atExec_e (s : State) : s.atExec.e = s.e := by
  simp [State.atExec, State.emitTrace, State.beginStep]

@[simp] theorem State.atExec_h (s : State) : s.atExec.h = s.h := by
  simp [State.atExec, State.emitTrace, State.beginStep]

@[simp] theorem State.atExec_l (s : State) : s.atExec.l = s.l := by
  simp [State.atExec, State.emitTrace, State.beginStep]

@[simp] theorem State.atExec_f (s : State) : s.atExec.f = s.f := by
  simp [State.atExec, State.emitTrace, State.beginStep]

@[simp] theorem State.atExec_sp (s : State) : s.atExec.sp = s.sp := by
  simp [State.atExec, State.emitTrace, State.beginStep]

@[simp] theorem State.atExec_ime (s : State) : s.atExec.ime = s.ime := by
  simp [State.atExec, State.emitTrace, State.beginStep]

@[simp] theorem State.atExec_halted (s : State) : s.atExec.halted = s.halted := by
  simp [State.atExec, State.emitTrace, State.beginStep]

@[simp] theorem State.atExec_busState (s : State) : s.atExec.busState = s.busState := by
  simp [State.atExec, State.emitTrace, State.beginStep]

@[simp] theorem State.atExec_params (s : State) : s.atExec.params = s.params := by
  simp [State.atExec, State.emitTrace, State.beginStep]

@[simp] theorem State.atExec_env (s : State) : s.atExec.env = s.env := by
  simp [State.atExec, State.emitTrace, State.beginStep]

@[simp] theorem State.atExec_freeCount (s : State) : s.atExec.freeCount = s.freeCount := by
  simp [State.atExec, State.emitTrace, State.beginStep]

@[simp] theorem State.atExec_addcyc (s : State) : s.atExec.addcyc = 0 := by
  simp [State.atExec, State.emitTrace, State.beginStep]

@[simp] theorem State.atExec_haltbug (s : State) : s.atExec.haltbug = false := by
  simp [State.atExec, State.emitTrace]

@[simp] theorem State.atExec_iaddr (s : State) : s.atExec.out.iaddr = s.pc := by
  simp [State.atExec, State.emitTrace, State.beginStep, Output.start]

/-! ### What a step can do -/

/-- A halted core makes a halt tick. -/
theorem instrStep_halted {s : State} (h : s.halted = true) : instrStep s = .next s.haltTick := by
  simp [instrStep, h]

/-- A running core executes the instruction it fetched. -/
theorem instrStep_running {s : State} (h : s.halted = false) :
    instrStep s =
      (match exec s.beginStep.fetch.instr s.atExec with
        | .next t => .next (t.endStep (baseCycles s.params.cyc s.beginStep.fetch.op s.beginStep.fetch.b1))
        | .fault e => .fault e
        | .refused r => .refused r) := by
  cases hx : exec s.beginStep.fetch.instr s.atExec <;> simp [instrStep, h, hx]

/-- A step that has a next state is a halt tick, or an instruction that has one; then the rest of the machine cycle
follows. -/
theorem step_next_cases {s t : State} (h : step s = .next t) :
    (s.halted = true ∧ t = s.haltTick.afterStep) ∨
    (s.halted = false ∧ ∃ u n, exec s.beginStep.fetch.instr s.atExec = .next u ∧ t = (u.endStep n).afterStep) := by
  unfold step machineCycle at h
  cases hh : s.halted with
  | true =>
    rw [instrStep_halted hh] at h
    injection h with h
    exact .inl ⟨rfl, h.symm⟩
  | false =>
    rw [instrStep_running hh] at h
    refine .inr ⟨rfl, ?_⟩
    cases he : exec s.beginStep.fetch.instr s.atExec with
    | next u =>
      rw [he] at h
      injection h with h
      exact ⟨u, _, rfl, h.symm⟩
    | fault e => rw [he] at h; cases h
    | refused r => rw [he] at h; cases h

end Sys2Proof.Machine
end

