-- ==== Sys2Proof/Tests/Slice0.lean ====
section
/-! SUPPORT. The model's own tests: well-formedness, the decoding of every row of the opcode table, single steps with
the results that 95_test_vectors.md gives, and for every statement with hypotheses a state and operands that meet
them. -/
namespace Sys2Proof.Tests
open Sys2Proof Sys2Proof.Machine

/-! ### Well-formedness: the one check, with the term it refuses -/

theorem test_prefix_entry_is_ill_formed : Instr.wf .prefixCb = false := by decide

theorem test_instruction_is_well_formed : Instr.wf (.jpA16 0xFFFF) = true := by decide

theorem test_prefix_byte_alone_is_refused : decode [0xCB] = .error (.truncated 0xCB) := by decide

theorem test_empty_stream_is_refused : decode [] = .error .empty := by decide

/-! ### Decoding, row by row of the listing in 30_encoding.md R100 and the map of R101 -/

theorem test_decode_primary0 :
    decode [0x00] = .ok .nop [] ∧
    decode [0x01, 0x34, 0x12] = .ok (.ldBcD16 0x1234) [] ∧
    decode [0x02] = .ok .ldMemBcA [] ∧
    decode [0x03] = .ok .incBc [] ∧
    decode [0x04] = .ok .incB [] ∧
    decode [0x05] = .ok .decB [] ∧
    decode [0x06, 0xA5] = .ok (.ldBD8 0xA5) [] ∧
    decode [0x07] = .ok .rlca [] ∧
    decode [0x08, 0x34, 0x12] = .ok (.ldMemA16Sp 0x1234) [] ∧
    decode [0x09] = .ok .addHlBc [] ∧
    decode [0x0A] = .ok .ldAMemBc [] ∧
    decode [0x0B] = .ok .decBc [] ∧
    decode [0x0C] = .ok .incC [] ∧
    decode [0x0D] = .ok .decC [] ∧
    decode [0x0E, 0xA5] = .ok (.ldCD8 0xA5) [] ∧
    decode [0x0F] = .ok .rrca [] := by decide

theorem test_decode_primary1 :
    decode [0x10, 0xA5] = .ok (.stop 0xA5) [] ∧
    decode [0x11, 0x34, 0x12] = .ok (.ldDeD16 0x1234) [] ∧
    decode [0x12] = .ok .ldMemDeA [] ∧
    decode [0x13] = .ok .incDe [] ∧
    decode [0x14] = .ok .incD [] ∧
    decode [0x15] = .ok .decD [] ∧
    decode [0x16, 0xA5] = .ok (.ldDD8 0xA5) [] ∧
    decode [0x17] = .ok .rla [] ∧
    decode [0x18, 0xA5] = .ok (.jrE8 0xA5) [] ∧
    decode [0x19] = .ok .addHlDe [] ∧
    decode [0x1A] = .ok .ldAMemDe [] ∧
    decode [0x1B] = .ok .decDe [] ∧
    decode [0x1C] = .ok .incE [] ∧
    decode [0x1D] = .ok .decE [] ∧
    decode [0x1E, 0xA5] = .ok (.ldED8 0xA5) [] ∧
    decode [0x1F] = .ok .rra [] := by decide

theorem test_decode_primary2 :
    decode [0x20, 0xA5] = .ok (.jrNzE8 0xA5) [] ∧
    decode [0x21, 0x34, 0x12] = .ok (.ldHlD16 0x1234) [] ∧
    decode [0x22] = .ok .ldMemHlIncA [] ∧
    decode [0x23] = .ok .incHl [] ∧
    decode [0x24] = .ok .incH [] ∧
    decode [0x25] = .ok .decH [] ∧
    decode [0x26, 0xA5] = .ok (.ldHD8 0xA5) [] ∧
    decode [0x27] = .ok .daa [] ∧
    decode [0x28, 0xA5] = .ok (.jrZE8 0xA5) [] ∧
    decode [0x29] = .ok .addHlHl [] ∧
    decode [0x2A] = .ok .ldAMemHlInc [] ∧
    decode [0x2B] = .ok .decHl [] ∧
    decode [0x2C] = .ok .incL [] ∧
    decode [0x2D] = .ok .decL [] ∧
    decode [0x2E, 0xA5] = .ok (.ldLD8 0xA5) [] ∧
    decode [0x2F] = .ok .cpl [] := by decide

theorem test_decode_primary3 :
    decode [0x30, 0xA5] = .ok (.jrNcE8 0xA5) [] ∧
    decode [0x31, 0x34, 0x12] = .ok (.ldSpD16 0x1234) [] ∧
    decode [0x32] = .ok .ldMemHlDecA [] ∧
    decode [0x33] = .ok .incSp [] ∧
    decode [0x34] = .ok .incMemHl [] ∧
    decode [0x35] = .ok .decMemHl [] ∧
    decode [0x36, 0xA5] = .ok (.ldMemHlD8 0xA5) [] ∧
    decode [0x37] = .ok .scf [] ∧
    decode [0x38, 0xA5] = .ok (.jrCE8 0xA5) [] ∧
    decode [0x39] = .ok .addHlSp [] ∧
    decode [0x3A] = .ok .ldAMemHlDec [] ∧
    decode [0x3B] = .ok .decSp [] ∧
    decode [0x3C] = .ok .incA [] ∧
    decode [0x3D] = .ok .decA [] ∧
    decode [0x3E, 0xA5] = .ok (.ldAD8 0xA5) [] ∧
    decode [0x3F] = .ok .ccf [] := by decide

theorem test_decode_primary4 :
    decode [0x40] = .ok .ldBB [] ∧
    decode [0x41] = .ok .ldBC [] ∧
    decode [0x42] = .ok .ldBD [] ∧
    decode [0x43] = .ok .ldBE [] ∧
    decode [0x44] = .ok .ldBH [] ∧
    decode [0x45] = .ok .ldBL [] ∧
    decode [0x46] = .ok .ldBMemHl [] ∧
    decode [0x47] = .ok .ldBA [] ∧
    decode [0x48] = .ok .ldCB [] ∧
    decode [0x49] = .ok .ldCC [] ∧
    decode [0x4A] = .ok .ldCD [] ∧
    decode [0x4B] = .ok .ldCE [] ∧
    decode [0x4C] = .ok .ldCH [] ∧
    decode [0x4D] = .ok .ldCL [] ∧
    decode [0x4E] = .ok .ldCMemHl [] ∧
    decode [0x4F] = .ok .ldCA [] := by decide

theorem test_decode_primary5 :
    decode [0x50] = .ok .ldDB [] ∧
    decode [0x51] = .ok .ldDC [] ∧
    decode [0x52] = .ok .ldDD [] ∧
    decode [0x53] = .ok .ldDE [] ∧
    decode [0x54] = .ok .ldDH [] ∧
    decode [0x55] = .ok .ldDL [] ∧
    decode [0x56] = .ok .ldDMemHl [] ∧
    decode [0x57] = .ok .ldDA [] ∧
    decode [0x58] = .ok .ldEB [] ∧
    decode [0x59] = .ok .ldEC [] ∧
    decode [0x5A] = .ok .ldED [] ∧
    decode [0x5B] = .ok .ldEE [] ∧
    decode [0x5C] = .ok .ldEH [] ∧
    decode [0x5D] = .ok .ldEL [] ∧
    decode [0x5E] = .ok .ldEMemHl [] ∧
    decode [0x5F] = .ok .ldEA [] := by decide

theorem test_decode_primary6 :
    decode [0x60] = .ok .ldHB [] ∧
    decode [0x61] = .ok .ldHC [] ∧
    decode [0x62] = .ok .ldHD [] ∧
    decode [0x63] = .ok .ldHE [] ∧
    decode [0x64] = .ok .ldHH [] ∧
    decode [0x65] = .ok .ldHL [] ∧
    decode [0x66] = .ok .ldHMemHl [] ∧
    decode [0x67] = .ok .ldHA [] ∧
    decode [0x68] = .ok .ldLB [] ∧
    decode [0x69] = .ok .ldLC [] ∧
    decode [0x6A] = .ok .ldLD [] ∧
    decode [0x6B] = .ok .ldLE [] ∧
    decode [0x6C] = .ok .ldLH [] ∧
    decode [0x6D] = .ok .ldLL [] ∧
    decode [0x6E] = .ok .ldLMemHl [] ∧
    decode [0x6F] = .ok .ldLA [] := by decide

theorem test_decode_primary7 :
    decode [0x70] = .ok .ldMemHlB [] ∧
    decode [0x71] = .ok .ldMemHlC [] ∧
    decode [0x72] = .ok .ldMemHlD [] ∧
    decode [0x73] = .ok .ldMemHlE [] ∧
    decode [0x74] = .ok .ldMemHlH [] ∧
    decode [0x75] = .ok .ldMemHlL [] ∧
    decode [0x76] = .ok .halt [] ∧
    decode [0x77] = .ok .ldMemHlA [] ∧
    decode [0x78] = .ok .ldAB [] ∧
    decode [0x79] = .ok .ldAC [] ∧
    decode [0x7A] = .ok .ldAD [] ∧
    decode [0x7B] = .ok .ldAE [] ∧
    decode [0x7C] = .ok .ldAH [] ∧
    decode [0x7D] = .ok .ldAL [] ∧
    decode [0x7E] = .ok .ldAMemHl [] ∧
    decode [0x7F] = .ok .ldAA [] := by decide

theorem test_decode_primary8 :
    decode [0x80] = .ok .addAB [] ∧
    decode [0x81] = .ok .addAC [] ∧
    decode [0x82] = .ok .addAD [] ∧
    decode [0x83] = .ok .addAE [] ∧
    decode [0x84] = .ok .addAH [] ∧
    decode [0x85] = .ok .addAL [] ∧
    decode [0x86] = .ok .addAMemHl [] ∧
    decode [0x87] = .ok .addAA [] ∧
    decode [0x88] = .ok .adcAB [] ∧
    decode [0x89] = .ok .adcAC [] ∧
    decode [0x8A] = .ok .adcAD [] ∧
    decode [0x8B] = .ok .adcAE [] ∧
    decode [0x8C] = .ok .adcAH [] ∧
    decode [0x8D] = .ok .adcAL [] ∧
    decode [0x8E] = .ok .adcAMemHl [] ∧
    decode [0x8F] = .ok .adcAA [] := by decide

theorem test_decode_primary9 :
    decode [0x90] = .ok .subB [] ∧
    decode [0x91] = .ok .subC [] ∧
    decode [0x92] = .ok .subD [] ∧
    decode [0x93] = .ok .subE [] ∧
    decode [0x94] = .ok .subH [] ∧
    decode [0x95] = .ok .subL [] ∧
    decode [0x96] = .ok .subMemHl [] ∧
    decode [0x97] = .ok .subA [] ∧
    decode [0x98] = .ok .sbcAB [] ∧
    decode [0x99] = .ok .sbcAC [] ∧
    decode [0x9A] = .ok .sbcAD [] ∧
    decode [0x9B] = .ok .sbcAE [] ∧
    decode [0x9C] = .ok .sbcAH [] ∧
    decode [0x9D] = .ok .sbcAL [] ∧
    decode [0x9E] = .ok .sbcAMemHl [] ∧
    decode [0x9F] = .ok .sbcAA [] := by decide

theorem test_decode_primaryA :
    decode [0xA0] = .ok .andB [] ∧
    decode [0xA1] = .ok .andC [] ∧
    decode [0xA2] = .ok .andD [] ∧
    decode [0xA3] = .ok .andE [] ∧
    decode [0xA4] = .ok .andH [] ∧
    decode [0xA5] = .ok .andL [] ∧
    decode [0xA6] = .ok .andMemHl [] ∧
    decode [0xA7] = .ok .andA [] ∧
    decode [0xA8] = .ok .xorB [] ∧
    decode [0xA9] = .ok .xorC [] ∧
    decode [0xAA] = .ok .xorD [] ∧
    decode [0xAB] = .ok .xorE [] ∧
    decode [0xAC] = .ok .xorH [] ∧
    decode [0xAD] = .ok .xorL [] ∧
    decode [0xAE] = .ok .xorMemHl [] ∧
    decode [0xAF] = .ok .xorA [] := by decide

theorem test_decode_primaryB :
    decode [0xB0] = .ok .orB [] ∧
    decode [0xB1] = .ok .orC [] ∧
    decode [0xB2] = .ok .orD [] ∧
    decode [0xB3] = .ok .orE [] ∧
    decode [0xB4] = .ok .orH [] ∧
    decode [0xB5] = .ok .orL [] ∧
    decode [0xB6] = .ok .orMemHl [] ∧
    decode [0xB7] = .ok .orA [] ∧
    decode [0xB8] = .ok .cpB [] ∧
    decode [0xB9] = .ok .cpC [] ∧
    decode [0xBA] = .ok .cpD [] ∧
    decode [0xBB] = .ok .cpE [] ∧
    decode [0xBC] = .ok .cpH [] ∧
    decode [0xBD] = .ok .cpL [] ∧
    decode [0xBE] = .ok .cpMemHl [] ∧
    decode [0xBF] = .ok .cpA [] := by decide

theorem test_decode_primaryC :
    decode [0xC0] = .ok .retNz [] ∧
    decode [0xC1] = .ok .popBc [] ∧
    decode [0xC2, 0x34, 0x12] = .ok (.jpNzA16 0x1234) [] ∧
    decode [0xC3, 0x34, 0x12] = .ok (.jpA16 0x1234) [] ∧
    decode [0xC4, 0x34, 0x12] = .ok (.callNzA16 0x1234) [] ∧
    decode [0xC5] = .ok .pushBc [] ∧
    decode [0xC6, 0xA5] = .ok (.addAD8 0xA5) [] ∧
    decode [0xC7] = .ok .rst00H [] ∧
    decode [0xC8] = .ok .retZ [] ∧
    decode [0xC9] = .ok .ret [] ∧
    decode [0xCA, 0x34, 0x12] = .ok (.jpZA16 0x1234) [] ∧
    decode [0xCC, 0x34, 0x12] = .ok (.callZA16 0x1234) [] ∧
    decode [0xCD, 0x34, 0x12] = .ok (.callA16 0x1234) [] ∧
    decode [0xCE, 0xA5] = .ok (.adcAD8 0xA5) [] ∧
    decode [0xCF] = .ok .rst08H [] := by decide

theorem test_decode_primaryD :
    decode [0xD0] = .ok .retNc [] ∧
    decode [0xD1] = .ok .popDe [] ∧
    decode [0xD2, 0x34, 0x12] = .ok (.jpNcA16 0x1234) [] ∧
    decode [0xD3] = .ok .invalidD3 [] ∧
    decode [0xD4, 0x34, 0x12] = .ok (.callNcA16 0x1234) [] ∧
    decode [0xD5] = .ok .pushDe [] ∧
    decode [0xD6, 0xA5] = .ok (.subD8 0xA5) [] ∧
    decode [0xD7] = .ok .rst10H [] ∧
    decode [0xD8] = .ok .retC [] ∧
    decode [0xD9] = .ok .reti [] ∧
    decode [0xDA, 0x34, 0x12] = .ok (.jpCA16 0x1234) [] ∧
    decode [0xDB] = .ok .invalidDB [] ∧
    decode [0xDC, 0x34, 0x12] = .ok (.callCA16 0x1234) [] ∧
    decode [0xDD] = .ok .invalidDD [] ∧
    decode [0xDE, 0xA5] = .ok (.sbcAD8 0xA5) [] ∧
    decode [0xDF] = .ok .rst18H [] := by decide

theorem test_decode_primaryE :
    decode [0xE0, 0xA5] = .ok (.ldhMemA8A 0xA5) [] ∧
    decode [0xE1] = .ok .popHl [] ∧
    decode [0xE2] = .ok .ldMemCA [] ∧
    decode [0xE3] = .ok .invalidE3 [] ∧
    decode [0xE4] = .ok .invalidE4 [] ∧
    decode [0xE5] = .ok .pushHl [] ∧
    decode [0xE6, 0xA5] = .ok (.andD8 0xA5) [] ∧
    decode [0xE7] = .ok .rst20H [] ∧
    decode [0xE8, 0xA5] = .ok (.addSpE8 0xA5) [] ∧
    decode [0xE9] = .ok .jpHl [] ∧
    decode [0xEA, 0x34, 0x12] = .ok (.ldMemA16A 0x1234) [] ∧
    decode [0xEB] = .ok .invalidEB [] ∧
    decode [0xEC] = .ok .invalidEC [] ∧
    decode [0xED] = .ok .invalidED [] ∧
    decode [0xEE, 0xA5] = .ok (.xorD8 0xA5) [] ∧
    decode [0xEF] = .ok .rst28H [] := by decide

theorem test_decode_primaryF :
    decode [0xF0, 0xA5] = .ok (.ldhAMemA8 0xA5) [] ∧
    decode [0xF1] = .ok .popAf [] ∧
    decode [0xF2] = .ok .ldAMemC [] ∧
    decode [0xF3] = .ok .di [] ∧
    decode [0xF4] = .ok .invalidF4 [] ∧
    decode [0xF5] = .ok .pushAf [] ∧
    decode [0xF6, 0xA5] = .ok (.orD8 0xA5) [] ∧
    decode [0xF7] = .ok .rst30H [] ∧
    decode [0xF8, 0xA5] = .ok (.ldHlSpE8 0xA5) [] ∧
    decode [0xF9] = .ok .ldSpHl [] ∧
    decode [0xFA, 0x34, 0x12] = .ok (.ldAMemA16 0x1234) [] ∧
    decode [0xFB] = .ok .ei [] ∧
    decode [0xFC] = .ok .invalidFC [] ∧
    decode [0xFD] = .ok .invalidFD [] ∧
    decode [0xFE, 0xA5] = .ok (.cpD8 0xA5) [] ∧
    decode [0xFF] = .ok .rst38H [] := by decide

theorem test_decode_secondary0 :
    decode [0xCB, 0x00] = .ok .rlcB [] ∧
    decode [0xCB, 0x01] = .ok .rlcC [] ∧
    decode [0xCB, 0x02] = .ok .rlcD [] ∧
    decode [0xCB, 0x03] = .ok .rlcE [] ∧
    decode [0xCB, 0x04] = .ok .rlcH [] ∧
    decode [0xCB, 0x05] = .ok .rlcL [] ∧
    decode [0xCB, 0x06] = .ok .rlcMemHl [] ∧
    decode [0xCB, 0x07] = .ok .rlcA [] ∧
    decode [0xCB, 0x08] = .ok .rrcB [] ∧
    decode [0xCB, 0x09] = .ok .rrcC [] ∧
    decode [0xCB, 0x0A] = .ok .rrcD [] ∧
    decode [0xCB, 0x0B] = .ok .rrcE [] ∧
    decode [0xCB, 0x0C] = .ok .rrcH [] ∧
    decode [0xCB, 0x0D] = .ok .rrcL [] ∧
    decode [0xCB, 0x0E] = .ok .rrcMemHl [] ∧
    decode [0xCB, 0x0F] = .ok .rrcA [] := by decide

theorem test_decode_secondary1 :
    decode [0xCB, 0x10] = .ok .rlB [] ∧
    decode [0xCB, 0x11] = .ok .rlC [] ∧
    decode [0xCB, 0x12] = .ok .rlD [] ∧
    decode [0xCB, 0x13] = .ok .rlE [] ∧
    decode [0xCB, 0x14] = .ok .rlH [] ∧
    decode [0xCB, 0x15] = .ok .rlL [] ∧
    decode [0xCB, 0x16] = .ok .rlMemHl [] ∧
    decode [0xCB, 0x17] = .ok .rlA [] ∧
    decode [0xCB, 0x18] = .ok .rrB [] ∧
    decode [0xCB, 0x19] = .ok .rrC [] ∧
    decode [0xCB, 0x1A] = .ok .rrD [] ∧
    decode [0xCB, 0x1B] = .ok .rrE [] ∧
    decode [0xCB, 0x1C] = .ok .rrH [] ∧
    decode [0xCB, 0x1D] = .ok .rrL [] ∧
    decode [0xCB, 0x1E] = .ok .rrMemHl [] ∧
    decode [0xCB, 0x1F] = .ok .rrA [] := by decide

theorem test_decode_secondary2 :
    decode [0xCB, 0x20] = .ok .slaB [] ∧
    decode [0xCB, 0x21] = .ok .slaC [] ∧
    decode [0xCB, 0x22] = .ok .slaD [] ∧
    decode [0xCB, 0x23] = .ok .slaE [] ∧
    decode [0xCB, 0x24] = .ok .slaH [] ∧
    decode [0xCB, 0x25] = .ok .slaL [] ∧
    decode [0xCB, 0x26] = .ok .slaMemHl [] ∧
    decode [0xCB, 0x27] = .ok .slaA [] ∧
    decode [0xCB, 0x28] = .ok .sraB [] ∧
    decode [0xCB, 0x29] = .ok .sraC [] ∧
    decode [0xCB, 0x2A] = .ok .sraD [] ∧
    decode [0xCB, 0x2B] = .ok .sraE [] ∧
    decode [0xCB, 0x2C] = .ok .sraH [] ∧
    decode [0xCB, 0x2D] = .ok .sraL [] ∧
    decode [0xCB, 0x2E] = .ok .sraMemHl [] ∧
    decode [0xCB, 0x2F] = .ok .sraA [] := by decide

theorem test_decode_secondary3 :
    decode [0xCB, 0x30] = .ok .swapB [] ∧
    decode [0xCB, 0x31] = .ok .swapC [] ∧
    decode [0xCB, 0x32] = .ok .swapD [] ∧
    decode [0xCB, 0x33] = .ok .swapE [] ∧
    decode [0xCB, 0x34] = .ok .swapH [] ∧
    decode [0xCB, 0x35] = .ok .swapL [] ∧
    decode [0xCB, 0x36] = .ok .swapMemHl [] ∧
    decode [0xCB, 0x37] = .ok .swapA [] ∧
    decode [0xCB, 0x38] = .ok .srlB [] ∧
    decode [0xCB, 0x39] = .ok .srlC [] ∧
    decode [0xCB, 0x3A] = .ok .srlD [] ∧
    decode [0xCB, 0x3B] = .ok .srlE [] ∧
    decode [0xCB, 0x3C] = .ok .srlH [] ∧
    decode [0xCB, 0x3D] = .ok .srlL [] ∧
    decode [0xCB, 0x3E] = .ok .srlMemHl [] ∧
    decode [0xCB, 0x3F] = .ok .srlA [] := by decide

theorem test_decode_secondary4 :
    decode [0xCB, 0x40] = .ok .bit0B [] ∧
    decode [0xCB, 0x41] = .ok .bit0C [] ∧
    decode [0xCB, 0x42] = .ok .bit0D [] ∧
    decode [0xCB, 0x43] = .ok .bit0E [] ∧
    decode [0xCB, 0x44] = .ok .bit0H [] ∧
    decode [0xCB, 0x45] = .ok .bit0L [] ∧
    decode [0xCB, 0x46] = .ok .bit0MemHl [] ∧
    decode [0xCB, 0x47] = .ok .bit0A [] ∧
    decode [0xCB, 0x48] = .ok .bit1B [] ∧
    decode [0xCB, 0x49] = .ok .bit1C [] ∧
    decode [0xCB, 0x4A] = .ok .bit1D [] ∧
    decode [0xCB, 0x4B] = .ok .bit1E [] ∧
    decode [0xCB, 0x4C] = .ok .bit1H [] ∧
    decode [0xCB, 0x4D] = .ok .bit1L [] ∧
    decode [0xCB, 0x4E] = .ok .bit1MemHl [] ∧
    decode [0xCB, 0x4F] = .ok .bit1A [] := by decide

theorem test_decode_secondary5 :
    decode [0xCB, 0x50] = .ok .bit2B [] ∧
    decode [0xCB, 0x51] = .ok .bit2C [] ∧
    decode [0xCB, 0x52] = .ok .bit2D [] ∧
    decode [0xCB, 0x53] = .ok .bit2E [] ∧
    decode [0xCB, 0x54] = .ok .bit2H [] ∧
    decode [0xCB, 0x55] = .ok .bit2L [] ∧
    decode [0xCB, 0x56] = .ok .bit2MemHl [] ∧
    decode [0xCB, 0x57] = .ok .bit2A [] ∧
    decode [0xCB, 0x58] = .ok .bit3B [] ∧
    decode [0xCB, 0x59] = .ok .bit3C [] ∧
    decode [0xCB, 0x5A] = .ok .bit3D [] ∧
    decode [0xCB, 0x5B] = .ok .bit3E [] ∧
    decode [0xCB, 0x5C] = .ok .bit3H [] ∧
    decode [0xCB, 0x5D] = .ok .bit3L [] ∧
    decode [0xCB, 0x5E] = .ok .bit3MemHl [] ∧
    decode [0xCB, 0x5F] = .ok .bit3A [] := by decide

theorem test_decode_secondary6 :
    decode [0xCB, 0x60] = .ok .bit4B [] ∧
    decode [0xCB, 0x61] = .ok .bit4C [] ∧
    decode [0xCB, 0x62] = .ok .bit4D [] ∧
    decode [0xCB, 0x63] = .ok .bit4E [] ∧
    decode [0xCB, 0x64] = .ok .bit4H [] ∧
    decode [0xCB, 0x65] = .ok .bit4L [] ∧
    decode [0xCB, 0x66] = .ok .bit4MemHl [] ∧
    decode [0xCB, 0x67] = .ok .bit4A [] ∧
    decode [0xCB, 0x68] = .ok .bit5B [] ∧
    decode [0xCB, 0x69] = .ok .bit5C [] ∧
    decode [0xCB, 0x6A] = .ok .bit5D [] ∧
    decode [0xCB, 0x6B] = .ok .bit5E [] ∧
    decode [0xCB, 0x6C] = .ok .bit5H [] ∧
    decode [0xCB, 0x6D] = .ok .bit5L [] ∧
    decode [0xCB, 0x6E] = .ok .bit5MemHl [] ∧
    decode [0xCB, 0x6F] = .ok .bit5A [] := by decide

theorem test_decode_secondary7 :
    decode [0xCB, 0x70] = .ok .bit6B [] ∧
    decode [0xCB, 0x71] = .ok .bit6C [] ∧
    decode [0xCB, 0x72] = .ok .bit6D [] ∧
    decode [0xCB, 0x73] = .ok .bit6E [] ∧
    decode [0xCB, 0x74] = .ok .bit6H [] ∧
    decode [0xCB, 0x75] = .ok .bit6L [] ∧
    decode [0xCB, 0x76] = .ok .bit6MemHl [] ∧
    decode [0xCB, 0x77] = .ok .bit6A [] ∧
    decode [0xCB, 0x78] = .ok .bit7B [] ∧
    decode [0xCB, 0x79] = .ok .bit7C [] ∧
    decode [0xCB, 0x7A] = .ok .bit7D [] ∧
    decode [0xCB, 0x7B] = .ok .bit7E [] ∧
    decode [0xCB, 0x7C] = .ok .bit7H [] ∧
    decode [0xCB, 0x7D] = .ok .bit7L [] ∧
    decode [0xCB, 0x7E] = .ok .bit7MemHl [] ∧
    decode [0xCB, 0x7F] = .ok .bit7A [] := by decide

theorem test_decode_secondary8 :
    decode [0xCB, 0x80] = .ok .res0B [] ∧
    decode [0xCB, 0x81] = .ok .res0C [] ∧
    decode [0xCB, 0x82] = .ok .res0D [] ∧
    decode [0xCB, 0x83] = .ok .res0E [] ∧
    decode [0xCB, 0x84] = .ok .res0H [] ∧
    decode [0xCB, 0x85] = .ok .res0L [] ∧
    decode [0xCB, 0x86] = .ok .res0MemHl [] ∧
    decode [0xCB, 0x87] = .ok .res0A [] ∧
    decode [0xCB, 0x88] = .ok .res1B [] ∧
    decode [0xCB, 0x89] = .ok .res1C [] ∧
    decode [0xCB, 0x8A] = .ok .res1D [] ∧
    decode [0xCB, 0x8B] = .ok .res1E [] ∧
    decode [0xCB, 0x8C] = .ok .res1H [] ∧
    decode [0xCB, 0x8D] = .ok .res1L [] ∧
    decode [0xCB, 0x8E] = .ok .res1MemHl [] ∧
    decode [0xCB, 0x8F] = .ok .res1A [] := by decide

theorem test_decode_secondary9 :
    decode [0xCB, 0x90] = .ok .res2B [] ∧
    decode [0xCB, 0x91] = .ok .res2C [] ∧
    decode [0xCB, 0x92] = .ok .res2D [] ∧
    decode [0xCB, 0x93] = .ok .res2E [] ∧
    decode [0xCB, 0x94] = .ok .res2H [] ∧
    decode [0xCB, 0x95] = .ok .res2L [] ∧
    decode [0xCB, 0x96] = .ok .res2MemHl [] ∧
    decode [0xCB, 0x97] = .ok .res2A [] ∧
    decode [0xCB, 0x98] = .ok .res3B [] ∧
    decode [0xCB, 0x99] = .ok .res3C [] ∧
    decode [0xCB, 0x9A] = .ok .res3D [] ∧
    decode [0xCB, 0x9B] = .ok .res3E [] ∧
    decode [0xCB, 0x9C] = .ok .res3H [] ∧
    decode [0xCB, 0x9D] = .ok .res3L [] ∧
    decode [0xCB, 0x9E] = .ok .res3MemHl [] ∧
    decode [0xCB, 0x9F] = .ok .res3A [] := by decide

theorem test_decode_secondaryA :
    decode [0xCB, 0xA0] = .ok .res4B [] ∧
    decode [0xCB, 0xA1] = .ok .res4C [] ∧
    decode [0xCB, 0xA2] = .ok .res4D [] ∧
    decode [0xCB, 0xA3] = .ok .res4E [] ∧
    decode [0xCB, 0xA4] = .ok .res4H [] ∧
    decode [0xCB, 0xA5] = .ok .res4L [] ∧
    decode [0xCB, 0xA6] = .ok .res4MemHl [] ∧
    decode [0xCB, 0xA7] = .ok .res4A [] ∧
    decode [0xCB, 0xA8] = .ok .res5B [] ∧
    decode [0xCB, 0xA9] = .ok .res5C [] ∧
    decode [0xCB, 0xAA] = .ok .res5D [] ∧
    decode [0xCB, 0xAB] = .ok .res5E [] ∧
    decode [0xCB, 0xAC] = .ok .res5H [] ∧
    decode [0xCB, 0xAD] = .ok .res5L [] ∧
    decode [0xCB, 0xAE] = .ok .res5MemHl [] ∧
    decode [0xCB, 0xAF] = .ok .res5A [] := by decide

theorem test_decode_secondaryB :
    decode [0xCB, 0xB0] = .ok .res6B [] ∧
    decode [0xCB, 0xB1] = .ok .res6C [] ∧
    decode [0xCB, 0xB2] = .ok .res6D [] ∧
    decode [0xCB, 0xB3] = .ok .res6E [] ∧
    decode [0xCB, 0xB4] = .ok .res6H [] ∧
    decode [0xCB, 0xB5] = .ok .res6L [] ∧
    decode [0xCB, 0xB6] = .ok .res6MemHl [] ∧
    decode [0xCB, 0xB7] = .ok .res6A [] ∧
    decode [0xCB, 0xB8] = .ok .res7B [] ∧
    decode [0xCB, 0xB9] = .ok .res7C [] ∧
    decode [0xCB, 0xBA] = .ok .res7D [] ∧
    decode [0xCB, 0xBB] = .ok .res7E [] ∧
    decode [0xCB, 0xBC] = .ok .res7H [] ∧
    decode [0xCB, 0xBD] = .ok .res7L [] ∧
    decode [0xCB, 0xBE] = .ok .res7MemHl [] ∧
    decode [0xCB, 0xBF] = .ok .res7A [] := by decide

theorem test_decode_secondaryC :
    decode [0xCB, 0xC0] = .ok .set0B [] ∧
    decode [0xCB, 0xC1] = .ok .set0C [] ∧
    decode [0xCB, 0xC2] = .ok .set0D [] ∧
    decode [0xCB, 0xC3] = .ok .set0E [] ∧
    decode [0xCB, 0xC4] = .ok .set0H [] ∧
    decode [0xCB, 0xC5] = .ok .set0L [] ∧
    decode [0xCB, 0xC6] = .ok .set0MemHl [] ∧
    decode [0xCB, 0xC7] = .ok .set0A [] ∧
    decode [0xCB, 0xC8] = .ok .set1B [] ∧
    decode [0xCB, 0xC9] = .ok .set1C [] ∧
    decode [0xCB, 0xCA] = .ok .set1D [] ∧
    decode [0xCB, 0xCB] = .ok .set1E [] ∧
    decode [0xCB, 0xCC] = .ok .set1H [] ∧
    decode [0xCB, 0xCD] = .ok .set1L [] ∧
    decode [0xCB, 0xCE] = .ok .set1MemHl [] ∧
    decode [0xCB, 0xCF] = .ok .set1A [] := by decide

theorem test_decode_secondaryD :
    decode [0xCB, 0xD0] = .ok .set2B [] ∧
    decode [0xCB, 0xD1] = .ok .set2C [] ∧
    decode [0xCB, 0xD2] = .ok .set2D [] ∧
    decode [0xCB, 0xD3] = .ok .set2E [] ∧
    decode [0xCB, 0xD4] = .ok .set2H [] ∧
    decode [0xCB, 0xD5] = .ok .set2L [] ∧
    decode [0xCB, 0xD6] = .ok .set2MemHl [] ∧
    decode [0xCB, 0xD7] = .ok .set2A [] ∧
    decode [0xCB, 0xD8] = .ok .set3B [] ∧
    decode [0xCB, 0xD9] = .ok .set3C [] ∧
    decode [0xCB, 0xDA] = .ok .set3D [] ∧
    decode [0xCB, 0xDB] = .ok .set3E [] ∧
    decode [0xCB, 0xDC] = .ok .set3H [] ∧
    decode [0xCB, 0xDD] = .ok .set3L [] ∧
    decode [0xCB, 0xDE] = .ok .set3MemHl [] ∧
    decode [0xCB, 0xDF] = .ok .set3A [] := by decide

theorem test_decode_secondaryE :
    decode [0xCB, 0xE0] = .ok .set4B [] ∧
    decode [0xCB, 0xE1] = .ok .set4C [] ∧
    decode [0xCB, 0xE2] = .ok .set4D [] ∧
    decode [0xCB, 0xE3] = .ok .set4E [] ∧
    decode [0xCB, 0xE4] = .ok .set4H [] ∧
    decode [0xCB, 0xE5] = .ok .set4L [] ∧
    decode [0xCB, 0xE6] = .ok .set4MemHl [] ∧
    decode [0xCB, 0xE7] = .ok .set4A [] ∧
    decode [0xCB, 0xE8] = .ok .set5B [] ∧
    decode [0xCB, 0xE9] = .ok .set5C [] ∧
    decode [0xCB, 0xEA] = .ok .set5D [] ∧
    decode [0xCB, 0xEB] = .ok .set5E [] ∧
    decode [0xCB, 0xEC] = .ok .set5H [] ∧
    decode [0xCB, 0xED] = .ok .set5L [] ∧
    decode [0xCB, 0xEE] = .ok .set5MemHl [] ∧
    decode [0xCB, 0xEF] = .ok .set5A [] := by decide

theorem test_decode_secondaryF :
    decode [0xCB, 0xF0] = .ok .set6B [] ∧
    decode [0xCB, 0xF1] = .ok .set6C [] ∧
    decode [0xCB, 0xF2] = .ok .set6D [] ∧
    decode [0xCB, 0xF3] = .ok .set6E [] ∧
    decode [0xCB, 0xF4] = .ok .set6H [] ∧
    decode [0xCB, 0xF5] = .ok .set6L [] ∧
    decode [0xCB, 0xF6] = .ok .set6MemHl [] ∧
    decode [0xCB, 0xF7] = .ok .set6A [] ∧
    decode [0xCB, 0xF8] = .ok .set7B [] ∧
    decode [0xCB, 0xF9] = .ok .set7C [] ∧
    decode [0xCB, 0xFA] = .ok .set7D [] ∧
    decode [0xCB, 0xFB] = .ok .set7E [] ∧
    decode [0xCB, 0xFC] = .ok .set7H [] ∧
    decode [0xCB, 0xFD] = .ok .set7L [] ∧
    decode [0xCB, 0xFE] = .ok .set7MemHl [] ∧
    decode [0xCB, 0xFF] = .ok .set7A [] := by decide


/-! ### The opcode table's numbering (30_encoding.md R106) -/

theorem test_table_word_one_byte : decodeTableWord 8 0x80 = some .addAB := by decide

theorem test_table_word_secondary : decodeTableWord 16 0xCB37 = some .swapA := by decide

theorem test_table_word_with_operand : decodeTableWord 8 0xC3 = some (.jpA16 0x0000) := by decide

/-- `withFetchWord` makes the next step run the instruction (V94 of 95_test_vectors.md). -/
theorem test_with_fetch_word_runs :
    (match step ({ State.reset with f := 0x70 }.withFetchWord 16 0xCB37) with
      | .next t => some (t.f, t.pc)
      | _ => none) = some (0x80, 0x0002) := by decide

/-! ### Single steps: the vectors V1 to V171 and scenarios S1 to S17 of 95_test_vectors.md, by number -/

/-- A machine at 0x0100 with SP = 0xD000, the state most vectors start from. -/
def base : State := { State.reset with pc := 0x0100, sp := 0xD000 }

/-- One step with `code` placed at PC, seen through `look`. -/
def run {α : Type} (s : State) (code : List Byte) (look : State → α) : Option α :=
  match step (s.placeBytes s.pc code) with
  | .next t => some (look t)
  | _ => none

/-- `s` with IF and IE as given. -/
def withIrq (s : State) (ifv iev : Byte) : State := (s.placeBytes 0xFF0F [ifv]).placeBytes 0xFFFF [iev]

theorem test_v2_add_wraps :
    run { base with a := 0xFF, b := 0x01 } [0x80] (fun t => (t.a, t.f, t.out.cycles)) = some (0x00, 0xB0, 4) := by
  decide

theorem test_v9_adc_with_carry :
    run { base with a := 0xFF, f := 0x10 } [0xCE, 0xFF] (fun t => (t.a, t.f)) = some (0xFF, 0x30) := by decide

theorem test_v17_sbc_with_borrow :
    run { base with a := 0x00, f := 0x10 } [0xDE, 0xFF] (fun t => (t.a, t.f)) = some (0x00, 0xF0) := by decide

theorem test_v30_inc_keeps_carry :
    run { base with b := 0xFF, f := 0x10 } [0x04] (fun t => (t.b, t.f)) = some (0x00, 0xB0) := by decide

theorem test_v39_daa_after_addition :
    run { base with a := 0x9A } [0x27] (fun t => (t.a, t.f)) = some (0x00, 0x90) := by decide

theorem test_v50_daa_after_subtraction :
    run { base with a := 0xFF, f := 0x70 } [0x27] (fun t => (t.a, t.f)) = some (0x99, 0x50) := by decide

theorem test_v55_ccf :
    run { base with f := 0x60 } [0x3F] (fun t => t.f) = some 0x10 := by decide

theorem test_v57_add_hl_keeps_zero :
    run { base with h := 0x0F, l := 0xFF, c := 0x01, f := 0x80 } [0x09] (fun t => (t.hl, t.f)) =
      some (0x1000, 0xA0) := by decide

theorem test_v69_add_sp_negative :
    run { base with sp := 0x0001 } [0xE8, 0xFF] (fun t => (t.sp, t.f)) = some (0x0000, 0x30) := by decide

theorem test_v74_ld_hl_sp :
    run { base with sp := 0xC0F8 } [0xF8, 0x08] (fun t => (t.hl, t.sp, t.f)) = some (0xC100, 0xC0F8, 0x30) := by
  decide

theorem test_v80_rra_clears_zero :
    run { base with f := 0x10 } [0x1F] (fun t => (t.a, t.f)) = some (0x80, 0x00) := by decide

theorem test_v90_sra_keeps_sign :
    run { base with a := 0x81 } [0xCB, 0x2F] (fun t => (t.a, t.f)) = some (0xC0, 0x10) := by decide

theorem test_v95_swap_memory :
    run ({ base with h := 0xC0, f := 0x10 }.placeBytes 0xC000 [0x1E]) [0xCB, 0x36]
      (fun t => (t.f, t.peek 0xC000, t.out.cycles)) = some (0x00, 0xE1, 16) := by decide

theorem test_v98_bit_memory :
    run ({ base with h := 0xC0 }.placeBytes 0xC000 [0x7F]) [0xCB, 0x7E]
      (fun t => (t.f, t.peek 0xC000, t.out.cycles)) = some (0xA0, 0x7F, 12) := by decide

theorem test_v101_res_register :
    run { base with d := 0xFF, f := 0xF0 } [0xCB, 0x9A] (fun t => (t.d, t.f)) = some (0xF7, 0xF0) := by decide

theorem test_v113_jr_wraps :
    run { base with pc := 0x0002 } [0x18, 0xF0] (fun t => t.pc) = some 0xFFF4 := by decide

theorem test_v115_jr_untaken :
    run base [0x28, 0x05] (fun t => (t.pc, t.out.cycles)) = some (0x0102, 8) := by decide

theorem test_v120_call_taken :
    run base [0xC4, 0x00, 0x20] (fun t => (t.pc, t.sp, t.peek 0xCFFF, t.peek 0xCFFE, t.out.cycles)) =
      some (0x2000, 0xCFFE, 0x01, 0x03, 24) := by decide

theorem test_v125_ret_wraps :
    run ({ base with sp := 0xFFFF }.placeBytes 0xFFFF [0x34, 0x12]) [0xC9] (fun t => (t.pc, t.sp)) =
      some (0x1234, 0x0001) := by decide

theorem test_v128_rst_at_top :
    run { base with pc := 0xFFFF } [0xFF] (fun t => (t.pc, t.sp, t.peek 0xCFFF, t.peek 0xCFFE)) =
      some (0x0038, 0xCFFE, 0x00, 0x00) := by decide

theorem test_v136_store_hl_inc_wraps :
    run { base with h := 0xFF, l := 0xFF, a := 0x77 } [0x22] (fun t => (t.hl, t.peek 0xFFFF)) =
      some (0x0000, 0x77) := by decide

theorem test_v141_ldh_load :
    run (base.placeBytes 0xFF80 [0xA5]) [0xF0, 0x80] (fun t => t.a) = some 0xA5 := by decide

theorem test_v151_push_wraps :
    run { base with d := 0xA5, e := 0x5A, sp := 0x0001 } [0xD5] (fun t => (t.sp, t.peek 0x0000, t.peek 0xFFFF)) =
      some (0xFFFF, 0xA5, 0x5A) := by decide

theorem test_v155_pop_af_masks :
    run ({ base with sp := 0xC000 }.placeBytes 0xC000 [0xA5, 0x01]) [0xF1] (fun t => (t.a, t.f, t.sp)) =
      some (0x01, 0xA0, 0xC002) := by decide

theorem test_v160_halt :
    run base [0x76] (fun t => (t.halted, t.pc, t.ime)) = some (true, 0x0101, false) := by decide

/-- V171, and the record of 60_exceptions.md R350. -/
theorem test_v171_invalid :
    run { base with a := 0x12, f := 0xF0 } [0xFD] (fun t => (t.pc, t.a, t.f, t.out.invalid)) =
      some (0x0101, 0x12, 0xF0, some { addr := 0x0100, op := 0xFD }) := by decide

/-- The note on STOP under `nop2` after the vectors. -/
theorem test_stop_nop2 :
    run base [0x10, 0x00] (fun t => (t.pc, t.out.cycles)) = some (0x0102, 4) := by decide

theorem test_s1_ei_dispatches_at_once :
    run (withIrq base 0x01 0x01) [0xFB, 0x00]
      (fun t => (t.pc, t.peek 0xCFFF, t.peek 0xCFFE, t.peek 0xFF0F, t.ime, t.out.dispatchCycles)) =
      some (0x0040, 0x01, 0x01, 0x00, false, 20) := by decide

theorem test_s2_least_bit_wins :
    run (withIrq { base with ime := true } 0x1F 0x1A) [0x00] (fun t => (t.pc, t.peek 0xFF0F, t.ime)) =
      some (0x0048, 0x1D, false) := by decide

theorem test_s4_upper_bits_do_not_count :
    run (withIrq { base with ime := true } 0xE0 0xFF) [0x00] (fun t => (t.pc, t.peek 0xFF0F, t.ime)) =
      some (0x0101, 0xE0, true) := by decide

theorem test_s7_di_before_check :
    run (withIrq { base with ime := true } 0x01 0x01) [0xF3] (fun t => (t.pc, t.peek 0xFF0F, t.ime)) =
      some (0x0101, 0x01, false) := by decide

/-- The second machine cycle of S8. -/
theorem test_s8_interrupt_ends_halt :
    run (withIrq { base with pc := 0x0201, ime := true, halted := true, env := [[.bus (.put 0xFF0F 0x04 0x04)]] } 0x00 0x04) []
      (fun t => (t.halted, t.pc, t.peek 0xCFFF, t.peek 0xCFFE, t.peek 0xFF0F)) =
      some (false, 0x0050, 0x02, 0x01, 0x00) := by decide

theorem test_s12_reti_then_dispatch :
    run ((withIrq { base with pc := 0x0057, sp := 0xCFFE } 0x02 0x02).placeBytes 0xCFFE [0x0E, 0x01]) [0xD9]
      (fun t => (t.pc, t.sp, t.peek 0xCFFF, t.peek 0xCFFE, t.peek 0xFF0F)) =
      some (0x0048, 0xCFFE, 0x01, 0x0E, 0x00) := by decide

theorem test_s13_push_over_if :
    run (withIrq { base with pc := 0x1234, sp := 0xFF10, ime := true } 0x05 0x04) [0x00]
      (fun t => (t.pc, t.sp, t.peek 0xFF0F, t.peek 0xFF0E)) = some (0x0050, 0xFF0E, 0x01, 0x35) := by decide

theorem test_s15_halt_bug_rereads_opcode :
    run { base with haltbug := true } [0x3E, 0x14] (fun t => (t.a, t.pc, t.haltbug)) =
      some (0x3E, 0x0101, false) := by decide

theorem test_s16_halt_bug_prefix :
    run { base with haltbug := true, e := 0x80 } [0xCB, 0x37] (fun t => (t.e, t.pc)) = some (0x82, 0x0101) := by
  decide

/-! ### The bus as a parameter (20_memory.md R60 to R63, R66; 60_exceptions.md R356) -/

/-- A ROM below 0x8000 that ignores writes; a register at 0xFF46 whose write sets a pending bit of IF; a stack byte
whose write puts the bus in mode 1, in which a write to the next lower byte is not stored but appears at 0xC000. -/
def devices : List BusRule :=
  [ { mode := none, first := 0x0000, last := 0x7FFF, value := none, stores := 0x00, changes := [] },
    { mode := none, first := 0xFF46, last := 0xFF46, value := none, stores := 0xF0
      changes := [.put 0xFF0F 0x04 0x04] },
    { mode := none, first := 0xCFFF, last := 0xCFFF, value := some 0x01, stores := 0xFF, changes := [.enter 1] },
    { mode := some 1, first := 0xCFFE, last := 0xCFFE, value := none, stores := 0x00
      changes := [.put 0xC000 0xFF 0x5A, .copy 0xC000 0xC010 2] } ]

/-- `s` on the bus with these devices. -/
def withDevices (s : State) : State := s.setBusState { s.busState with rules := devices }

/-- R62: "a ROM location does not change". -/
theorem test_rom_ignores_write :
    run (withDevices ({ base with a := 0x77, b := 0x12 }.placeBytes 0x1200 [0x3C])) [0x02]
      (fun t => (t.peek 0x1200, t.out.bus.length)) = some (0x3C, 2) := by decide

/-- R62, R63, R356: a register stores some of the bits written, and its callback raises a pending bit of IF inside
the write, which the check after the step already finds. -/
theorem test_write_callback_raises_interrupt :
    run (withDevices (withIrq { base with ime := true, a := 0xFF } 0x00 0x04)) [0xE0, 0x46]
      (fun t => (t.peek 0xFF46, t.pc, t.ime, t.peek 0xFF0F)) = some (0xF0, 0x0050, false, 0x00) := by decide

/-- R63, R66: what the bus does with the first write of a push is there for the second. -/
theorem test_first_write_seen_by_second :
    run (withDevices base) [0xCD, 0x00, 0x20]
      (fun t => (t.peek 0xCFFF, t.peek 0xCFFE, t.peek 0xC000, t.peek 0xC010, t.sp)) =
      some (0x01, 0x00, 0x5A, 0x5A, 0xCFFE) := by decide

/-! ### Witnesses: for each statement with hypotheses, what meets them -/

theorem witness_DecodeOfEncodeIsIdentity : Instr.wf .set7A = true := by decide

theorem witness_EveryByteDecodes_complete :
    instrLen 0xC3 ≤ ([0x50, 0x01] : List Byte).length + 1 ∧ instrLen 0x00 ≤ ([] : List Byte).length + 1 := by decide

theorem witness_EveryByteDecodes_truncated :
    ([0x50] : List Byte).length + 1 < instrLen 0xC3 ∧ ([] : List Byte).length + 1 < instrLen 0xCB := by decide

/-- The machine at the top of the address space, where the second byte of the instruction is at 0. -/
theorem witness_StepRunsDecodedInstruction :
    let s := { base with pc := 0xFFFF }.placeBytes 0xFFFF [0x18, 0xFE]
    s.halted = false ∧ s.haltbug = false ∧ ¬(s.peek s.pc = 0x10 ∧ s.params.stop = .invalid) ∧
    decode [s.peek s.pc, s.peek (s.pc + 1), s.peek (s.pc + 2)] = .ok (.jrE8 0xFE) [0x00] := by decide

/-- STOP is not shut out where `STOP_BEHAVIOUR` is not `invalid`. -/
theorem witness_StepRunsDecodedInstruction_stop :
    let s := base.placeBytes 0x0100 [0x10, 0x00]
    s.halted = false ∧ s.haltbug = false ∧ ¬(s.peek s.pc = 0x10 ∧ s.params.stop = .invalid) ∧
    decode [s.peek s.pc, s.peek (s.pc + 1), s.peek (s.pc + 2)] = .ok (.stop 0x00) [0x00] := by decide

theorem witness_HaltTickChangesNothing : { base with halted := true }.halted = true := by decide

theorem witness_HaltBugSuppressesOneIncrement :
    let s := { base with haltbug := true }.placeBytes 0x0100 [0xC3, 0x00, 0x80]
    s.halted = false ∧ s.haltbug = true ∧ ¬(s.peek s.pc = 0x10 ∧ s.params.stop = .invalid) := by decide

theorem witness_OperandCodesSelectRegisters : (Rp2.af = .af) ∧ (Rp2.bc ≠ .af) := by decide

theorem witness_MemoryReadsBackWrites : Memory.wf (base.placeBytes 0xFFFF [0x01]).busState.mem = true ∧ plainBus base ∧
    ruleFor base.busState.mode 0xFFFF 0x01 base.busState.rules = none := ⟨by decide, rfl, rfl⟩

/-- A rule without changes, one with a `put` at another address, and one that changes the mode. -/
theorem witness_MemoryReadsBackWrites_rules :
    (∃ r, ruleFor 0 0x7FFF 0xFF devices = some r ∧ r.changes = []) ∧
    (∃ r, ruleFor 0 0xFF46 0x00 devices = some r ∧ r.changes = [.put 0xFF0F 0x04 0x04] ∧ (0xFF0F : Word) ≠ 0xFF46) ∧
    (∃ r, ruleFor 0 0xCFFF 0x01 devices = some r ∧ r.changes = [.enter 1]) :=
  ⟨⟨_, rfl, rfl⟩, ⟨_, rfl, rfl, by decide⟩, ⟨_, rfl, rfl⟩⟩

theorem witness_PushThenPopMovesPair :
    plainBus base ∧ (Rp2.af = .af ∧ Rp2.af = Rp2.af) ∧ (Rp2.bc ≠ .af ∧ Rp2.bc = Rp2.bc) := ⟨rfl, by decide⟩

theorem witness_AddAndAdcSetAccumulator_register :
    let s := { base with h := 0xFF, l := 0xFF }.placeBytes 0xFFFF [0xFF]
    ∃ r, Instr.addAMemHl = rowAlu .add r ∧ (0xFF : Byte) = r8Value s r ∧ false = false ∧
      [BusEvent.read 0xFFFF 0xFF] = r8Reads s r := ⟨.memHl, by decide⟩

theorem witness_AddAndAdcSetAccumulator_immediate :
    Instr.addAD8 0xFF = rowAluImm .add 0xFF ∧ false = false ∧ ([] : List BusEvent) = [] := by decide

theorem witness_AddAndAdcSetAccumulator_carry :
    let s := { base with b := 0xFF, f := 0x10 }
    (∃ r, Instr.adcAB = rowAlu .adc r ∧ (0xFF : Byte) = r8Value s r ∧ true = s.flagC ∧
      ([] : List BusEvent) = r8Reads s r) ∧
    (Instr.adcAD8 0x00 = rowAluImm .adc 0x00 ∧ true = s.flagC ∧ ([] : List BusEvent) = []) :=
  ⟨⟨.b, by decide⟩, by decide⟩

theorem witness_SubSbcAndCpSubtract_sub :
    (Alu.sub = .sub ∧ false = false) ∧
    ∃ r, Instr.subB = rowAlu .sub r ∧ (0x01 : Byte) = r8Value { base with b := 0x01 } r ∧
      ([] : List BusEvent) = r8Reads { base with b := 0x01 } r := ⟨by decide, .b, by decide⟩

theorem witness_SubSbcAndCpSubtract_sbc :
    (Alu.sbc = .sbc ∧ true = { base with f := 0x10 }.flagC) ∧
    (Instr.sbcAD8 0xFF = rowAluImm .sbc 0xFF ∧ ([] : List BusEvent) = []) := by decide

theorem witness_SubSbcAndCpSubtract_cp :
    (Alu.cp = .cp ∧ false = false) ∧
    ∃ r, Instr.cpMemHl = rowAlu .cp r ∧ (0x00 : Byte) = r8Value base r ∧
      [BusEvent.read 0x0000 0x00] = r8Reads base r := ⟨by decide, .memHl, by decide⟩

theorem witness_AndXorOrAreBitwise_and :
    (Alu.and = .and ∧ (0x0F : Byte) = { base with a := 0xFF }.a &&& 0x0F) ∧
    (Instr.andD8 0x0F = rowAluImm .and 0x0F ∧ ([] : List BusEvent) = []) := by decide

theorem witness_AndXorOrAreBitwise_xor :
    (Alu.xor = .xor ∧ (0x00 : Byte) = { base with a := 0xFF }.a ^^^ 0xFF) ∧
    ∃ r, Instr.xorA = rowAlu .xor r ∧ (0xFF : Byte) = r8Value { base with a := 0xFF } r ∧
      ([] : List BusEvent) = r8Reads { base with a := 0xFF } r := ⟨by decide, .a, by decide⟩

theorem witness_AndXorOrAreBitwise_or :
    (Alu.or = .or ∧ (0x80 : Byte) = base.a ||| 0x80) ∧
    (Instr.orD8 0x80 = rowAluImm .or 0x80 ∧ ([] : List BusEvent) = []) := by decide

theorem witness_IncAndDecKeepCarry : (R8.a ≠ .memHl) ∧ ¬(R8.memHl ≠ .memHl) := by decide

theorem witness_IncAndDecPairsWrap : (Rp.hl ≠ .sp) ∧ ¬(Rp.sp ≠ .sp) := by decide

theorem witness_AccumulatorRotatesClearZero :
    (Instr.rlca = .rlca ∧ Rot.rlc = .rlc ∧ true = { base with a := 0x80 }.a.getLsbD 7) ∧
    (Instr.rrca = .rrca ∧ Rot.rrc = .rrc ∧ true = { base with a := 0x01 }.a.getLsbD 0) ∧
    (Instr.rla = .rla ∧ Rot.rl = .rl ∧ true = { base with a := 0x80 }.a.getLsbD 7) ∧
    (Instr.rra = .rra ∧ Rot.rr = .rr ∧ true = { base with a := 0x01 }.a.getLsbD 0) := by decide

theorem witness_SecondaryRotatesComputeZero_left :
    let s := { base with h := 0x80 }
    (Rot.rlc = .rlc ∧ 0x00 = 0x00 ∧ true = (r8Value s .h).getLsbD 7) ∧
    (Rot.rl = .rl ∧ 0x10 = 0x10 ∧ true = (r8Value s .h).getLsbD 7) ∧
    (Rot.sla = .sla ∧ 0x20 = 0x20 ∧ true = (r8Value s .h).getLsbD 7) ∧
    (Rot.swap = .swap ∧ 0x30 = 0x30 ∧ false = false) := by decide

theorem witness_SecondaryRotatesComputeZero_right :
    let s := base.placeBytes 0x0000 [0x01]
    (Rot.rrc = .rrc ∧ 0x08 = 0x08 ∧ true = (r8Value s .memHl).getLsbD 0) ∧
    (Rot.rr = .rr ∧ 0x18 = 0x18 ∧ true = (r8Value s .memHl).getLsbD 0) ∧
    (Rot.sra = .sra ∧ 0x28 = 0x28 ∧ true = (r8Value s .memHl).getLsbD 0) ∧
    (Rot.srl = .srl ∧ 0x38 = 0x38 ∧ true = (r8Value s .memHl).getLsbD 0) := by decide

theorem witness_ResAndSetChangeOneBit : (R8.l ≠ .memHl) ∧ 7 < 8 ∧ 7 = Octal.n7.toNat ∧ 0 ≠ Octal.n7.toNat := by
  decide

theorem witness_RotatesArePeriodic :
    (R8.memHl = .memHl → plainBus base) ∧ (R8.a = .memHl → plainBus base) ∧ Rot.rrc ∈ [Rot.rlc, Rot.rrc] ∧
    Rot.rr ∈ [Rot.rl, Rot.rr] ∧ Instr.rrca ∈ [Instr.rlca, Instr.rrca] ∧ Instr.rla ∈ [Instr.rla, Instr.rra] :=
  ⟨fun _ => rfl, fun _ => rfl, by decide⟩

theorem witness_CallAndRstPushReturnAddress :
    (Instr.callA16 0xFFFF = .callA16 0xFFFF) ∧
    ∃ n : Octal, Instr.rst38H = rowRst n ∧ (0x0038 : Word) = BitVec.ofNat 16 (8 * n.toNat) :=
  ⟨by decide, .n7, by decide⟩

theorem witness_ConditionalCallsAndReturns : condHolds base .z = false ∧ condHolds base .nz = true := by decide

theorem witness_NopDiEiEffects :
    (Instr.di = .di ∧ false = false) ∧ (Instr.ei = .ei ∧ true = true) := by decide

theorem witness_HaltSetsHalted : base.params.haltbugCondition = .envOnly := by decide

/-- The machine with every parameter at the choice the defaults do not take. -/
def others : Params where
  invalidOpcode := .fault
  stop := .invalid
  haltWakeWithoutIme := true
  haltbugCondition := .lr35902
  haltTick := 1
  intDispatchCycles := 0
  cyc := { CycleTables.default with takenJr := 0 }

theorem witness_HaltUnderHaltBugCondition_pending :
    let s := withIrq { base with params := others } 0x10 0x10
    s.params.haltbugCondition = .lr35902 ∧ s.ime = false ∧
      s.peek 0xFF0F &&& s.peek 0xFFFF &&& 0x1F ≠ 0 := by decide

theorem witness_HaltUnderHaltBugCondition_none :
    let s := withIrq { base with params := others } 0xE0 0xFF
    s.params.haltbugCondition = .lr35902 ∧
      ¬(s.ime = false ∧ s.peek 0xFF0F &&& s.peek 0xFFFF &&& 0x1F ≠ 0) := by decide

theorem witness_StopFollowsParameter :
    { Params.default with stop := .refuse }.stop = .refuse ∧ Params.default.stop = .nop2 ∧
    ({ others with invalidOpcode := .nop }.stop = .invalid ∧
      { others with invalidOpcode := .nop }.invalidOpcode = .nop) ∧
    (others.stop = .invalid ∧ others.invalidOpcode = .fault) := by decide

theorem witness_InvalidOpcodesLeaveRecordOnly :
    (Instr.invalidD3, (0xD3 : Byte)) ∈ invalidRows ∧ (Instr.invalidFD, (0xFD : Byte)) ∈ invalidRows ∧
    Params.default.invalidOpcode = .nop ∧ others.invalidOpcode = .fault := by decide

theorem witness_LoadsMoveOneByte_register :
    let s := base.placeBytes 0x0000 [0x7F]
    ∃ src : R8, (R8.b, src) ≠ (.memHl, .memHl) ∧ Instr.ldBMemHl = rowLd .b src ∧ (0x7F : Byte) = r8Value s src ∧
      [BusEvent.read 0x0000 0x7F] = r8Reads s src := ⟨.memHl, by decide⟩

theorem witness_LoadsMoveOneByte_immediate :
    Instr.ldMemHlD8 0xFF = rowLdImm8 .memHl 0xFF ∧ ([] : List BusEvent) = [] := by decide

theorem witness_AccumulatorLoadsReadOneByte :
    let s := { base with b := 0xFF, c := 0xFF }
    (Instr.ldAMemBc = .ldAMemBc ∧ (0xFFFF : Word) = s.bc) ∧
    (Instr.ldAMemDe = .ldAMemDe ∧ (0x0000 : Word) = s.de) ∧ Instr.ldAMemA16 0xFFFF = .ldAMemA16 0xFFFF ∧
    (∃ n : Byte, Instr.ldhAMemA8 0x00 = .ldhAMemA8 n ∧ (0xFF00 : Word) = BitVec.ofNat 16 (0xFF00 + n.toNat)) ∧
    (Instr.ldAMemC = .ldAMemC ∧ (0xFFFF : Word) = BitVec.ofNat 16 (0xFF00 + s.c.toNat)) :=
  ⟨by decide, by decide, by decide, ⟨0x00, by decide⟩, by decide⟩

theorem witness_AccumulatorStoresWriteOneByte :
    let s := { base with b := 0xFF, c := 0xFF }
    (Instr.ldMemBcA = .ldMemBcA ∧ (0xFFFF : Word) = s.bc) ∧
    (Instr.ldMemDeA = .ldMemDeA ∧ (0x0000 : Word) = s.de) ∧ Instr.ldMemA16A 0x0000 = .ldMemA16A 0x0000 ∧
    (∃ n : Byte, Instr.ldhMemA8A 0xFF = .ldhMemA8A n ∧ (0xFFFF : Word) = BitVec.ofNat 16 (0xFF00 + n.toNat)) ∧
    (Instr.ldMemCA = .ldMemCA ∧ (0xFFFF : Word) = BitVec.ofNat 16 (0xFF00 + s.c.toNat)) :=
  ⟨by decide, by decide, by decide, ⟨0xFF, by decide⟩, by decide⟩

theorem witness_HlStepsAfterAccess :
    (Instr.ldMemHlIncA = .ldMemHlIncA ∧ 1 = 1) ∧ (Instr.ldMemHlDecA = .ldMemHlDecA ∧ 65535 = 65535) ∧
    (Instr.ldAMemHlInc = .ldAMemHlInc ∧ 1 = 1) ∧ (Instr.ldAMemHlDec = .ldAMemHlDec ∧ 65535 = 65535) := by decide

theorem witness_WordLoadsSetPair : (Rp.de ≠ .sp) ∧ ¬(Rp.sp ≠ .sp) := by decide

theorem witness_PushWritesHighByteFirst : Rp2.af = .af := by decide

theorem witness_PopReadsLowByteFirst : (Rp2.hl ≠ .af) ∧ (Rp2.af = .af) := by decide

theorem witness_StoredBytesAndNoOthers : R8.l ≠ .memHl ∧ plainBus base := ⟨by decide, rfl⟩

theorem witness_InterruptCheckDispatchesHighest_disabled :
    base.ime = false ∧ base.params.haltWakeWithoutIme = false := by decide

theorem witness_InterruptCheckDispatchesHighest_enabled :
    { base with ime := true }.ime = true ∧
    ((withIrq base 0xE0 0xFF).peek 0xFF0F &&& (withIrq base 0xE0 0xFF).peek 0xFFFF &&& 0x1F) = 0 ∧
    ((withIrq base 0x10 0x10).peek 0xFF0F &&& (withIrq base 0x10 0x10).peek 0xFFFF &&& 0x1F) ≠ 0 := by decide

theorem witness_InterruptCheckDispatchesHighest_wake :
    others.haltWakeWithoutIme = true ∧ base.ime = false ∧
    { base with halted := true }.halted = true ∧ base.halted = false ∧
    ((withIrq base 0x10 0x10).peek 0xFF0F &&& (withIrq base 0x10 0x10).peek 0xFFFF &&& 0x1F) ≠ 0 ∧
    ((withIrq base 0xE0 0xFF).peek 0xFF0F &&& (withIrq base 0xE0 0xFF).peek 0xFFFF &&& 0x1F) = 0 := by decide

theorem witness_LowestBitHasPriority :
    highest 0x10 = some .joypad ∧ highest 0x1F = some .vblank ∧ highest 0xE0 = none := by decide

/-- A halted machine meets the hypotheses: its step is a halt tick. -/
theorem witness_PendingInterruptIsTakenAfterStep :
    let s := withIrq { base with ime := true, halted := true } 0x1F 0x04
    let t := s.haltTick
    instrStep s = .next t ∧ t.env = [] ∧ t.ime = true ∧
    highest (t.peek 0xFF0F &&& t.peek 0xFFFF &&& 0x1F) = some .timer ∧
    t.sp - 1 ≠ 0xFF0F ∧ t.sp - 2 ≠ 0xFF0F ∧ t.busState.rules = [] := ⟨rfl, by decide⟩

/-- The stack bytes fall on IF: the clauses about them say nothing, the clause about IF does (S13). -/
theorem witness_PendingInterruptIsTakenAfterStep_over_if :
    let s := withIrq { base with ime := true, halted := true, sp := 0xFF10 } 0x1F 0x04
    let t := s.haltTick
    instrStep s = .next t ∧ t.env = [] ∧ t.ime = true ∧
    highest (t.peek 0xFF0F &&& t.peek 0xFFFF &&& 0x1F) = some .timer ∧ t.sp - 1 = 0xFF0F := ⟨rfl, by decide⟩

theorem witness_OnlyListedInstructionsWriteFlags :
    exec .ldSpHl base = .next (base.setSp 0) ∧ mayWriteFlags .ldSpHl = false ∧ mayWriteFlags .res0A = false ∧
    mayWriteFlags .bit7A = true := ⟨rfl, by decide⟩

theorem witness_OnlyNamedEventsWriteControl :
    exec .reti base = .next base.returnFromInterrupt ∧ exec .di base = .next (base.setIme false) ∧
    exec .nop base = .next base ∧ Instr.nop ≠ .di ∧ Instr.nop ≠ .ei ∧ Instr.nop ≠ .reti ∧ Instr.nop ≠ .halt ∧
    base.params.haltbugCondition = .envOnly := ⟨rfl, rfl, rfl, by decide⟩

/-- An entry with a bus event and `haltbug_set`, one entry after it, and an ended list. -/
theorem witness_OnlyNamedEventsWriteControl_environment :
    let es : List EnvEvent := [.bus (.put 0xFF0F 0x04 0xFF), .haltbugSet]
    { base with env := [es, [.reset]] }.env = es :: [[.reset]] ∧ EnvEvent.reset ∉ es ∧ EnvEvent.haltbugSet ∈ es ∧
    base.env = [] ∧ step { base with halted := true } = .next { base with halted := true }.haltTick :=
  ⟨rfl, by decide, by decide, rfl, rfl⟩

theorem witness_MemoryChangesOnlyByBusWrites :
    exec .ldMemDeA base = .next (base.memWrite 0x0000 0x00) ∧
    exec .ldMemDeA { base with busState := { base.busState with rules := devices } } =
      .next (State.memWrite { base with busState := { base.busState with rules := devices } } 0x0000 0x00) :=
  ⟨rfl, rfl⟩

theorem witness_EveryStepKeepsInvariant :
    { base with halted := true }.Inv ∧
    step { base with halted := true } = .next { base with halted := true }.haltTick := ⟨⟨by decide, by decide, by decide⟩, rfl⟩

theorem witness_HaltedCoreStaysOrWakes :
    { base with halted := true }.hung := ⟨rfl, rfl, rfl, rfl⟩

/-- Once with a source pending and enabled, once with none. -/
theorem witness_HaltedCoreStaysOrWakes_wake :
    let s := withIrq { base with params := others, halted := true } 0x04 0x04
    let u := withIrq { base with params := others, halted := true } 0xE0 0xE0
    s.halted = true ∧ s.ime = false ∧ s.env = [] ∧ s.params.haltWakeWithoutIme = true ∧
    s.peek 0xFF0F &&& s.peek 0xFFFF &&& 0x1F ≠ 0 ∧ u.halted = true ∧ u.ime = false ∧ u.env = [] ∧
    u.params.haltWakeWithoutIme = true ∧ u.peek 0xFF0F &&& u.peek 0xFFFF &&& 0x1F = 0 := by decide

end Sys2Proof.Tests
end

section
/-! Lemmas on the state's registers, flags and operands, and the statements of 10_state.md about them. -/
namespace Sys2Proof.Machine

/-! ### Halves and pairs as numbers -/

@[simp] theorem hi8_toNat (w : Word) : (hi8 w).toNat = w.toNat / 256 := by
  have hw := w.isLt
  simp only [hi8, BitVec.extractLsb'_toNat, Nat.shiftRight_eq_div_pow]
  omega

@[simp] theorem lo8_toNat (w : Word) : (lo8 w).toNat = w.toNat % 256 := by
  simp [lo8, BitVec.extractLsb'_toNat]

theorem mk16_toNat (h l : Byte) : (mk16 h l).toNat = h.toNat * 256 + l.toNat := by
  rw [mk16, BitVec.toNat_append, ← Nat.shiftLeft_add_eq_or_of_lt l.isLt, Nat.shiftLeft_eq]

/-- Two pairs are masked half by half. -/
theorem mk16_and_mk16 (h l h' l' : Byte) : mk16 h l &&& mk16 h' l' = mk16 (h &&& h') (l &&& l') :=
  BitVec.and_append

/-- The mask 0xFFF0 of a pair keeps the high half and takes the low four bits from the low half. -/
theorem mk16_and_FFF0 (h l : Byte) : mk16 h l &&& 0xFFF0 = mk16 h (l &&& 0xF0) := by
  rw [show (0xFFF0 : Word) = mk16 (BitVec.allOnes 8) 0xF0 from rfl, mk16_and_mk16, BitVec.and_allOnes]

/-- The mask 0xF0 rounds a byte down to a multiple of 16. -/
theorem and_F0_toNat (v : Byte) : (v &&& 0xF0).toNat = v.toNat / 16 * 16 := by
  have hmask : v &&& (0xF0 : Byte) = v >>> 4 <<< 4 := by
    ext i hi
    interval_cases i <;> simp
  have hv := v.isLt
  rw [hmask, BitVec.toNat_shiftLeft, BitVec.toNat_ushiftRight, Nat.shiftRight_eq_div_pow, Nat.shiftLeft_eq]
  omega

/-! ### A pair written and read back -/

@[simp] theorem bc_setBc (s : State) (w : Word) : (s.setBc w).bc = w := mk16_hi8_lo8 w
@[simp] theorem de_setDe (s : State) (w : Word) : (s.setDe w).de = w := mk16_hi8_lo8 w
@[simp] theorem hl_setHl (s : State) (w : Word) : (s.setHl w).hl = w := mk16_hi8_lo8 w

@[simp] theorem getF_setAf (s : State) (w : Word) : (s.setAf w).getF = lo8 w &&& 0xF0 := getF_setF _ _

/-- AF reads back without the low four bits of F (10_state.md R29). -/
@[simp] theorem af_setAf (s : State) (w : Word) : (s.setAf w).af = w &&& 0xFFF0 := by
  calc (s.setAf w).af
    _ = mk16 (hi8 w) (lo8 w &&& 0xF0) := by rw [State.af, State.setAf_a, getF_setAf]
    _ = w &&& 0xFFF0 := by rw [← mk16_and_FFF0, mk16_hi8_lo8]

@[simp] theorem getRp_setRp (s : State) (p : Rp) (w : Word) : (s.setRp p w).getRp p = w := by
  cases p with
  | bc => exact bc_setBc s w
  | de => exact de_setDe s w
  | hl => exact hl_setHl s w
  | sp => rfl

theorem getRp2_setRp2 (s : State) (p : Rp2) (w : Word) :
    (s.setRp2 p w).getRp2 p = if p = .af then w &&& 0xFFF0 else w := by
  cases p with
  | bc => exact bc_setBc s w
  | de => exact de_setDe s w
  | hl => exact hl_setHl s w
  | af => exact af_setAf s w

/-! ### Which registers a write leaves -/

theorem keepsRegsBut_setBc (s : State) (w : Word) : keepsRegsBut [.b, .c] s (s.setBc w) := by simp [keepsRegsBut]
theorem keepsRegsBut_setDe (s : State) (w : Word) : keepsRegsBut [.d, .e] s (s.setDe w) := by simp [keepsRegsBut]
theorem keepsRegsBut_setHl (s : State) (w : Word) : keepsRegsBut [.h, .l] s (s.setHl w) := by simp [keepsRegsBut]
theorem keepsRegsBut_setAf (s : State) (w : Word) : keepsRegsBut [.a] s (s.setAf w) := by simp [keepsRegsBut]
theorem keepsRegsBut_setF (s : State) (v : Byte) : keepsRegsBut [] s (s.setF v) := by simp [keepsRegsBut]

theorem keepsRegsBut_setR8 (s : State) (r : R8) (v : Byte) : keepsRegsBut [r] s (s.setR8 r v) := by
  cases r <;> simp [keepsRegsBut, State.setR8]

theorem keepsFlow_setR8 (s : State) (r : R8) (v : Byte) : keepsFlow s (s.setR8 r v) := by
  simp [keepsFlow, keepsControl]

/-- Settles O8: a pair is its two halves as a number, and its write is the write of the two halves. -/
theorem pairsAreViewsOfRegisters : Obligations.PairsAreViewsOfRegisters := by
  refine ⟨fun s => ?read, fun s x y => ?halves, fun s w => ⟨?bc, ?de, ?hl, ?af⟩⟩
  case read => exact ⟨mk16_toNat _ _, mk16_toNat _ _, mk16_toNat _ _, mk16_toNat _ _⟩
  case halves => exact ⟨rfl, mk16_toNat _ _, mk16_toNat _ _, mk16_toNat _ _⟩
  case bc => exact ⟨hi8_toNat w, lo8_toNat w, bc_setBc s w, keepsRegsBut_setBc s w, rfl⟩
  case de => exact ⟨hi8_toNat w, lo8_toNat w, de_setDe s w, keepsRegsBut_setDe s w, rfl⟩
  case hl => exact ⟨hi8_toNat w, lo8_toNat w, hl_setHl s w, keepsRegsBut_setHl s w, rfl⟩
  case af =>
    have hF : (s.setAf w).getF.toNat = w.toNat % 256 / 16 * 16 := by rw [getF_setAf, and_F0_toNat, lo8_toNat]
    exact ⟨hi8_toNat w, hF, keepsRegsBut_setAf s w⟩

/-! ### The flag byte -/

/-- A bit is set exactly when the mask of that one bit leaves something. -/
theorem getLsbD_iff_and_twoPow_ne_zero (v : Byte) {i : Nat} (hi : i < 8) :
    v.getLsbD i = true ↔ v &&& BitVec.twoPow 8 i ≠ 0 := by
  have hne : BitVec.twoPow 8 i ≠ 0 := fun h => by
    simpa [hi] using congrArg (BitVec.getLsbD · i) h
  rw [BitVec.and_twoPow]
  cases v.getLsbD i with
  | false => simp
  | true => simpa using hne

theorem flagZ_iff (s : State) : s.flagZ = true ↔ s.getF &&& 0x80 ≠ 0 :=
  getLsbD_iff_and_twoPow_ne_zero s.getF (i := 7) (by decide)

theorem flagN_iff (s : State) : s.flagN = true ↔ s.getF &&& 0x40 ≠ 0 :=
  getLsbD_iff_and_twoPow_ne_zero s.getF (i := 6) (by decide)

theorem flagH_iff (s : State) : s.flagH = true ↔ s.getF &&& 0x20 ≠ 0 :=
  getLsbD_iff_and_twoPow_ne_zero s.getF (i := 5) (by decide)

theorem flagC_iff (s : State) : s.flagC = true ↔ s.getF &&& 0x10 ≠ 0 :=
  getLsbD_iff_and_twoPow_ne_zero s.getF (i := 4) (by decide)

/-- The low nibble of F always reads 0 (10_state.md R29). -/
theorem getF_and_0F (s : State) : s.getF &&& 0x0F = 0 := and_F0_and_0F s.f

theorem af_and_000F (s : State) : s.af &&& 0x000F = 0 := by
  rw [State.af, show (0x000F : Word) = mk16 0 0x0F from rfl, mk16_and_mk16, getF_and_0F,
    show s.a &&& 0 = 0 from BitVec.and_zero]
  rfl

theorem flagsAre_withFlags (s : State) (z n h c : Bool) : flagsAre (s.withFlags z n h c) z n h c :=
  ⟨flagZ_withFlags s z n h c, flagN_withFlags s z n h c, flagH_withFlags s z n h c, flagC_withFlags s z n h c⟩

/-- Settles O9: each flag is one bit of F as it reads, and every read and write of F masks with 0xF0. -/
theorem flagByteLayout : Obligations.FlagByteLayout :=
  ⟨fun s => ⟨flagZ_iff s, flagN_iff s, flagH_iff s, flagC_iff s, getF_and_0F s, af_and_000F s⟩,
    fun s v => ⟨rfl, getF_setF s v, keepsRegsBut_setF s v⟩,
    flagsAre_withFlags⟩

/-! ### Operand codes -/

theorem codeR8_ofCode (c : Octal) : codeR8 (R8.ofCode c) = c.toNat := by cases c <;> rfl

theorem codeRp_ofY (y : Octal) : codeRp (Rp.ofY y) = y.toNat / 2 := by cases y <;> rfl

theorem codeRp2_ofY (y : Octal) : codeRp2 (Rp2.ofY y) = y.toNat / 2 := by cases y <;> rfl

theorem getR8_fst (s : State) (r : R8) : (s.getR8 r).1 = r8Value s r := by cases r <;> rfl

/-- Reading an operand changes nothing but the record of its accesses. -/
theorem sameButOut_getR8 (s : State) (r : R8) : s.sameButOut (s.getR8 r).2 := by
  obtain ⟨_, hreg⟩ | ⟨_, hmem⟩ := s.getR8_cases r
  · rw [hreg]; rfl
  · rw [hmem]; rfl

theorem regHolds_setR8 (s : State) (r : R8) (v : Byte) : regHolds (s.setR8 r v) v r := by
  cases r with
  | memHl => trivial
  | _ => rfl

/-- Settles O10: code by code, and by the laws of reading and writing an operand and a pair. -/
theorem operandCodesSelectRegisters : Obligations.OperandCodesSelectRegisters :=
  ⟨codeR8_ofCode,
    fun y => ⟨codeRp_ofY y, codeRp2_ofY y⟩,
    fun s r => ⟨getR8_fst s r, s.getR8_bus r, sameButOut_getR8 s r⟩,
    fun s r v => ⟨regHolds_setR8 s r v, s.setR8_bus r v, keepsRegsBut_setR8 s r v, s.setR8_f r v,
      keepsFlow_setR8 s r v⟩,
    fun _ => ⟨rfl, rfl, rfl, rfl, rfl, rfl, rfl, rfl⟩,
    getRp_setRp,
    getRp2_setRp2⟩

/-! ### Reset -/

@[simp] theorem State.resetEvent_pc (s : State) : s.resetEvent.pc = 0x0000 := rfl
@[simp] theorem State.resetEvent_ime (s : State) : s.resetEvent.ime = false := rfl
@[simp] theorem State.resetEvent_halted (s : State) : s.resetEvent.halted = false := rfl
@[simp] theorem State.resetEvent_haltbug (s : State) : s.resetEvent.haltbug = false := rfl
@[simp] theorem State.resetEvent_addcyc (s : State) : s.resetEvent.addcyc = 0 := rfl
@[simp] theorem State.resetEvent_busState (s : State) : s.resetEvent.busState = s.busState := rfl
@[simp] theorem State.resetEvent_out (s : State) : s.resetEvent.out = s.out := rfl

/-- F after reset is a free value written through the mask of 10_state.md R29. -/
theorem State.resetEvent_f_and_0F (s : State) : s.resetEvent.f &&& 0x0F = 0 := and_F0_and_0F _

theorem keepsBus_of_busState {s t : State} (h : t.busState = s.busState) : keepsBus s t :=
  ⟨h, congrFun (peek_of_busState h)⟩

theorem makesAccesses_none {s t : State} (h : t.out.bus = s.out.bus) : makesAccesses s t [] := by
  rw [makesAccesses, h, List.append_nil]

/-- The first fetch after reset reads at RESET_PC, on the bus as it was (70_reset_and_hazards.md R390). -/
theorem resetEvent_fetch_op (s : State) : s.resetEvent.fetch.op = s.peek 0x0000 := by
  rw [State.fetch_op, State.resetEvent_pc, peek_of_busState s.resetEvent_busState]

/-- Settles O14: field by field, for the event and for the state the model starts in. -/
theorem resetLeavesSpecifiedValues : Obligations.ResetLeavesSpecifiedValues := by
  refine ⟨fun s => ⟨rfl, rfl, rfl, rfl, rfl, s.resetEvent_f_and_0F, ?bus, ?accesses, resetEvent_fetch_op s⟩,
    ?start⟩
  case bus => exact keepsBus_of_busState s.resetEvent_busState
  case accesses => exact makesAccesses_none (congrArg Output.bus s.resetEvent_out)
  case start => exact ⟨rfl, rfl, rfl, rfl, rfl, rfl⟩

end Sys2Proof.Machine
end

section
/-! PROOFS. The stack primitives of 20_memory.md: what a push and a pop leave unchanged, and O12. -/
namespace Sys2Proof.Machine

/-! ### What a push and a pop leave -/

theorem keepsRegsBut_push16 (s : State) (w : Word) : keepsRegsBut [] s (s.push16 w) := by simp [keepsRegsBut]

theorem keepsControl_push16 (s : State) (w : Word) : keepsControl s (s.push16 w) := by simp [keepsControl]

theorem keepsRegsBut_pop16 (s : State) : keepsRegsBut [] s s.pop16.2 := by simp [keepsRegsBut]

theorem keepsControl_pop16 (s : State) : keepsControl s s.pop16.2 := by simp [keepsControl]

/-- A pop only reads the bus, so the bus and every register but SP stay (20_memory.md R69). -/
theorem keepsData_pop16 (s : State) : keepsData s s.pop16.2 :=
  ⟨keepsRegsBut_pop16 s, s.pop16_snd_f, keepsBus_of_busState s.pop16_snd_busState⟩

/-- The word a pop gives as a number: the byte at SP + 1 is the high half (20_memory.md R69). -/
theorem State.pop16_toNat (s : State) :
    s.pop16.1.toNat = (s.peek (s.sp + 1)).toNat * 256 + (s.peek s.sp).toNat := by
  rw [State.pop16_fst, mk16_toNat]

/-- Settles O12: the recorded accesses of each primitive, its new SP, and its frame. -/
theorem stackPrimitives : Obligations.StackPrimitives := by
  refine ⟨fun s w => ?push, fun s => ?pop⟩
  case push =>
    exact ⟨s.push16_sp w, s.push16_bus w, keepsRegsBut_push16 s w, s.push16_f w, s.push16_pc w, s.push16_addcyc w,
      keepsControl_push16 s w⟩
  case pop =>
    exact ⟨s.pop16_toNat, s.pop16_snd_sp, s.pop16_bus, keepsData_pop16 s, s.pop16_snd_pc, s.pop16_snd_addcyc,
      keepsControl_pop16 s⟩

end Sys2Proof.Machine
end

section
/-! PROOFS. 30_encoding.md: an opcode byte is its three fields, an encoding begins with the byte decoded, and O39. -/
namespace Sys2Proof.Machine

/-! ### The fields of an opcode byte -/

theorem octalOfField_toNat (n : Nat) : (Octal.ofField n).toNat = n % 8 := by
  have hn : n % 8 < 8 := Nat.mod_lt n (by decide)
  unfold Octal.ofField
  interval_cases n % 8 <;> rfl

theorem fieldX_eq (op : Byte) : fieldX op = op.toNat / 64 := by
  have hop := op.isLt
  rw [fieldX, BitVec.extractLsb'_toNat, Nat.shiftRight_eq_div_pow]
  omega

theorem fieldY_toNat (op : Byte) : (fieldY op).toNat = op.toNat / 8 % 8 := by
  rw [fieldY, octalOfField_toNat, BitVec.extractLsb'_toNat, Nat.shiftRight_eq_div_pow]
  omega

theorem fieldZ_toNat (op : Byte) : (fieldZ op).toNat = op.toNat % 8 := by
  rw [fieldZ, octalOfField_toNat, BitVec.extractLsb'_toNat, Nat.shiftRight_eq_div_pow]
  omega

theorem fieldX_lt (op : Byte) : fieldX op < 4 := (op.extractLsb' 6 2).isLt

/-- The three fields of an opcode byte make it up again (30_encoding.md R91). -/
theorem opByte_fields (op : Byte) :
    opByte (64 * fieldX op + 8 * (fieldY op).toNat + (fieldZ op).toNat) = op := by
  have hsum : 64 * (op.toNat / 64) + 8 * (op.toNat / 8 % 8) + op.toNat % 8 = op.toNat := by omega
  rw [fieldX_eq, fieldY_toNat, fieldZ_toNat, hsum, opByte, BitVec.ofNat_toNat, BitVec.setWidth_eq]

/-! ### The first byte of the encoding of a decoded instruction -/

theorem encode_rowRot (y z : Octal) :
    encode (rowRot (Rot.ofCode y) (R8.ofCode z)) = [0xCB, opByte (64 * 0 + 8 * y.toNat + z.toNat)] := by
  cases y <;> cases z <;> rfl

theorem encode_rowBit (y z : Octal) :
    encode (rowBit y (R8.ofCode z)) = [0xCB, opByte (64 * 1 + 8 * y.toNat + z.toNat)] := by
  cases y <;> cases z <;> rfl

theorem encode_rowRes (y z : Octal) :
    encode (rowRes y (R8.ofCode z)) = [0xCB, opByte (64 * 2 + 8 * y.toNat + z.toNat)] := by
  cases y <;> cases z <;> rfl

theorem encode_rowSet (y z : Octal) :
    encode (rowSet y (R8.ofCode z)) = [0xCB, opByte (64 * 3 + 8 * y.toNat + z.toNat)] := by
  cases y <;> cases z <;> rfl

/-- A secondary instruction encodes to the prefix and the byte it was decoded from (30_encoding.md R99, R101). -/
theorem encode_decodeSecondary (op2 : Byte) : encode (decodeSecondary op2) = [0xCB, op2] := by
  have hfields := opByte_fields op2
  have hx := fieldX_lt op2
  unfold decodeSecondary
  interval_cases fieldX op2
  · simp only [encode_rowRot, hfields]
  · simp only [encode_rowBit, hfields]
  · simp only [encode_rowRes, hfields]
  · simp only [encode_rowSet, hfields]

theorem encode_decodeX0_head (y z : Octal) (b1 b2 : Byte) :
    (encode (decodeX0 y z b1 b2)).head? = some (opByte (64 * 0 + 8 * y.toNat + z.toNat)) := by
  cases z <;> cases y <;> rfl

theorem encode_rowLd_head (y z : Octal) :
    (encode (rowLd (R8.ofCode y) (R8.ofCode z))).head? = some (opByte (64 * 1 + 8 * y.toNat + z.toNat)) := by
  cases y <;> cases z <;> rfl

theorem encode_rowAlu_head (y z : Octal) :
    (encode (rowAlu (Alu.ofCode y) (R8.ofCode z))).head? = some (opByte (64 * 2 + 8 * y.toNat + z.toNat)) := by
  cases y <;> cases z <;> rfl

/-- In quadrant 3 only the prefix takes its instruction from another table. -/
theorem encode_decodeX3_head (y z : Octal) (b1 b2 : Byte) :
    (encode (decodeX3 y z b1 b2)).head? = some (opByte (64 * 3 + 8 * y.toNat + z.toNat)) := by
  cases z with
  | n3 =>
    cases y with
    | n1 => exact congrArg List.head? (encode_decodeSecondary b1)
    | _ => rfl
  | _ => cases y <;> rfl

/-- The encoding of a decoded instruction begins with the opcode byte it was decoded from. -/
theorem encode_decodeInstr_head (op b1 b2 : Byte) : (encode (decodeInstr op b1 b2)).head? = some op := by
  have hfields := opByte_fields op
  have hx := fieldX_lt op
  unfold decodeInstr
  interval_cases fieldX op
  · simp only [encode_decodeX0_head, hfields]
  · simp only [encode_rowLd_head, hfields]
  · simp only [encode_rowAlu_head, hfields]
  · simp only [encode_decodeX3_head, hfields]

/-! ### The invalid opcodes -/

theorem encode_invalidRows : ∀ x ∈ invalidRows, encode x.1 = [x.2] ∧ instrLen x.2 = 1 := by decide

theorem decodeInstr_invalidRows {x : Instr × Byte} (hx : x ∈ invalidRows) (b1 b2 : Byte) :
    decodeInstr x.2 b1 b2 = x.1 := by
  fin_cases hx <;> rfl

/-- Two opcode bytes never share an instruction, so each invalid instruction has its one byte (30_encoding.md R102). -/
theorem decodeInstr_eq_invalid_iff {x : Instr × Byte} (hx : x ∈ invalidRows) (op b1 b2 : Byte) :
    decodeInstr op b1 b2 = x.1 ↔ op = x.2 := by
  constructor
  · intro hdec
    have hhead := encode_decodeInstr_head op b1 b2
    rw [hdec, (encode_invalidRows x hx).1] at hhead
    exact (Option.some.inj hhead).symm
  · rintro rfl
    exact decodeInstr_invalidRows hx b1 b2

/-- The invalid opcodes are the bytes of `invalidRows`, whatever follows them. -/
theorem decodesInvalid_iff (op b1 b2 : Byte) :
    (∃ x ∈ invalidRows, decodeInstr op b1 b2 = x.1) ↔ op ∈ invalidRows.map Prod.snd := by
  rw [List.mem_map]
  exact exists_congr fun x => and_congr_right fun hx =>
    (decodeInstr_eq_invalid_iff hx op b1 b2).trans eq_comm

theorem exec_invalidRows {x : Instr × Byte} (hx : x ∈ invalidRows) (s : State) :
    exec x.1 s = s.raiseInvalid x.2 := by
  fin_cases hx <;> rfl

theorem State.raiseInvalid_of_nop {s : State} (h : s.params.invalidOpcode = .nop) (op : Byte) :
    s.raiseInvalid op = .next (s.setOut { s.out with invalid := some { addr := s.out.iaddr, op := op } }) := by
  rw [State.raiseInvalid, h]

theorem State.raiseInvalid_of_fault {s : State} (h : s.params.invalidOpcode = .fault) (op : Byte) :
    s.raiseInvalid op = .fault (.invalidOpcode s.out.iaddr op) := by
  rw [State.raiseInvalid, h]

/-- Settles O39: the opcodes by the first byte of the encoding, the effect by the two branches of the trap. -/
theorem invalidOpcodesLeaveRecordOnly : Obligations.InvalidOpcodesLeaveRecordOnly := by
  refine ⟨decodesInvalid_iff, State.atExec_iaddr, fun x hx => ?row⟩
  case row =>
    obtain ⟨henc, hlen⟩ := encode_invalidRows x hx
    refine ⟨henc, hlen, fun s => ⟨fun hnop => ?record, fun hfault => ?fault⟩⟩
    case record =>
      exact ⟨_, (exec_invalidRows hx s).trans (State.raiseInvalid_of_nop hnop x.2), rfl, rfl, makesAccesses_none rfl⟩
    case fault => exact (exec_invalidRows hx s).trans (State.raiseInvalid_of_fault hfault x.2)

end Sys2Proof.Machine
end

section
/-! PROOFS. 40_alu8.md: what an 8-bit operation computes and what it leaves, and O15 to O20. -/
namespace Sys2Proof.Machine

/-! ### What an instruction that writes only registers and flags leaves -/

/-- From `s` to `t` only F, the registers in `written` and the record of the bus change, the latter by `acc`. -/
def leavesAllBut (written : List R8) (acc : List BusEvent) (s t : State) : Prop :=
  makesAccesses s t acc ∧ keepsRegsBut written s t ∧ keepsBus s t ∧ keepsFlow s t

theorem keepsFlow_withFlags (s : State) (z n h c : Bool) : keepsFlow s (s.withFlags z n h c) := by
  simp [keepsFlow, keepsControl]

theorem leavesAllBut_withFlags (s : State) (z n h c : Bool) : leavesAllBut [] [] s (s.withFlags z n h c) :=
  ⟨makesAccesses_none rfl, keepsRegsBut_setF s _, keepsBus_of_busState rfl, keepsFlow_withFlags s z n h c⟩

theorem leavesAllBut_setA (s : State) (v : Byte) : leavesAllBut [.a] [] s (s.setA v) :=
  ⟨makesAccesses_none rfl, keepsRegsBut_setR8 s .a v, keepsBus_of_busState rfl, keepsFlow_setR8 s .a v⟩

/-- Reading an operand leaves all but the record of the bus (10_state.md R24). -/
theorem leavesAllBut_getR8 (s : State) (r : R8) : leavesAllBut [] (r8Reads s r) s (s.getR8 r).2 :=
  ⟨s.getR8_bus r, by simp [keepsRegsBut], keepsBus_of_busState (s.getR8_snd_busState r),
    by simp [keepsFlow, keepsControl]⟩

theorem keepsFlow_trans {s t u : State} : keepsFlow s t → keepsFlow t u → keepsFlow s u := by
  rintro ⟨hsp, hpc, haddcyc, hime, hhalted, hhaltbug, hparams, henv, hfree⟩
    ⟨ksp, kpc, kaddcyc, kime, khalted, khaltbug, kparams, kenv, kfree⟩
  exact ⟨ksp.trans hsp, kpc.trans hpc, kaddcyc.trans haddcyc, kime.trans hime, khalted.trans hhalted,
    khaltbug.trans hhaltbug, kparams.trans hparams, kenv.trans henv, kfree.trans hfree⟩

theorem keepsRegsBut_trans {xs ys : List R8} {s t u : State} (hst : keepsRegsBut xs s t) (htu : keepsRegsBut ys t u) :
    keepsRegsBut (xs ++ ys) s u := by
  simp only [keepsRegsBut, List.mem_append, not_or] at *
  grind

/-- A second change that makes no access adds the registers it writes. -/
theorem leavesAllBut_trans {xs ys : List R8} {acc : List BusEvent} {s t u : State}
    (hst : leavesAllBut xs acc s t) (htu : leavesAllBut ys [] t u) : leavesAllBut (xs ++ ys) acc s u := by
  obtain ⟨hacc, hregs, ⟨hbus, hpeek⟩, hflow⟩ := hst
  obtain ⟨kacc, kregs, ⟨kbus, kpeek⟩, kflow⟩ := htu
  have hout : makesAccesses s u acc := by
    rw [makesAccesses, kacc, hacc, List.append_nil]
  exact ⟨hout, keepsRegsBut_trans hregs kregs, keepsBus_of_busState (kbus.trans hbus), keepsFlow_trans hflow kflow⟩

/-! ### The ALU group (40_alu8.md R130) -/

/-- The value of an ALU selector, field `y` of the opcode. -/
def codeAlu : Alu → Nat
  | .add => 0 | .adc => 1 | .sub => 2 | .sbc => 3 | .and => 4 | .xor => 5 | .or => 6 | .cp => 7

theorem encode_rowAlu (op : Alu) (r : R8) : encode (rowAlu op r) = [opByte (0x80 + 8 * codeAlu op + codeR8 r)] := by
  cases op <;> cases r <;> rfl

theorem encode_rowAluImm (op : Alu) (v : Byte) : encode (rowAluImm op v) = [opByte (0xC6 + 8 * codeAlu op), v] := by
  cases op <;> rfl

theorem exec_rowAlu (op : Alu) (r : R8) (s : State) : exec (rowAlu op r) s = .next (s.aluR8 op r) := by
  cases op <;> cases r <;> rfl

theorem exec_rowAluImm (op : Alu) (v : Byte) (s : State) : exec (rowAluImm op v) s = .next (s.aluA op v) := by
  cases op <;> rfl

/-- The flags hold those of a result. -/
def flagsAreOf (t : State) (r : AluResult) : Prop := flagsAre t r.z r.n r.h r.c

/-- CP writes the A it had (40_alu8.md R148). -/
theorem State.aluA_eq (s : State) (op : Alu) (v : Byte) :
    s.aluA op v =
      (s.setA (if op = .cp then s.a else (alu8 op s.a v s.flagC).res)).withFlags (alu8 op s.a v s.flagC).z
        (alu8 op s.a v s.flagC).n (alu8 op s.a v s.flagC).h (alu8 op s.a v s.flagC).c := by
  cases op <;> rfl

theorem State.aluA_a (s : State) (op : Alu) (v : Byte) :
    (s.aluA op v).a = if op = .cp then s.a else (alu8 op s.a v s.flagC).res := by
  rw [State.aluA_eq]; rfl

theorem flagsAreOf_aluA (s : State) (op : Alu) (v : Byte) : flagsAreOf (s.aluA op v) (alu8 op s.a v s.flagC) :=
  flagsAre_withFlags _ _ _ _ _

theorem leavesAllBut_aluA (s : State) (op : Alu) (v : Byte) : leavesAllBut [.a] [] s (s.aluA op v) := by
  rw [State.aluA_eq]
  exact leavesAllBut_trans (leavesAllBut_setA s _) (leavesAllBut_withFlags _ _ _ _ _)

/-- `i` is operation `op` of the ALU group on the operand value `v`, which it reads in `s` by the accesses `acc`. -/
def aluForm (s : State) (op : Alu) (i : Instr) (v : Byte) (acc : List BusEvent) : Prop :=
  (∃ r, i = rowAlu op r ∧ v = r8Value s r ∧ acc = r8Reads s r) ∨ (i = rowAluImm op v ∧ acc = [])

/-- Every form of the group computes `alu8` of A, the operand and the old Carry; CP discards the result. -/
theorem completes_aluForm {s : State} {op : Alu} {i : Instr} {v : Byte} {acc : List BusEvent}
    (hform : aluForm s op i v acc) :
    completes i s fun t =>
      t.a = (if op = .cp then s.a else (alu8 op s.a v s.flagC).res) ∧
      flagsAreOf t (alu8 op s.a v s.flagC) ∧ leavesAllBut [.a] acc s t := by
  obtain ⟨r, rfl, rfl, rfl⟩ | ⟨rfl, rfl⟩ := hform
  · have ha := s.getR8_snd_a r
    have hcarry : (s.getR8 r).2.flagC = s.flagC := by rw [State.flagC, State.flagC, getF_of_f (s.getR8_snd_f r)]
    refine ⟨s.aluR8 op r, exec_rowAlu op r s, ?result, ?flags,
      leavesAllBut_trans (leavesAllBut_getR8 s r) (leavesAllBut_aluA _ op _)⟩
    case result => rw [State.aluR8, State.aluA_a, getR8_fst, ha, hcarry]
    case flags => rw [← getR8_fst, ← ha, ← hcarry]; exact flagsAreOf_aluA _ op _
  · exact ⟨s.aluA op v, exec_rowAluImm op v s, s.aluA_a op v, flagsAreOf_aluA s op v, leavesAllBut_aluA s op v⟩

/-! ### Half carry and borrow -/

theorem and_0F_toNat (v : Byte) : (v &&& 0x0F).toNat = v.toNat % 16 := by
  rw [BitVec.toNat_and]
  exact Nat.and_two_pow_sub_one_eq_mod v.toNat 4

theorem ofNat_add_carry (x y : Byte) (c : Bool) :
    BitVec.ofNat 8 (x.toNat + y.toNat + c.toNat) = x + y + BitVec.setWidth 8 (BitVec.ofBool c) := by
  apply BitVec.eq_of_toNat_eq
  cases c <;> simp [BitVec.toNat_add]

/-- Bit 4 of a sum differs from the bit 4 of its parts by the carry out of bit 3, so the XOR form of H is that carry
(40_alu8.md R131). -/
theorem xor_sum_and_10_ne_zero_iff (x y : Byte) (c : Bool) :
    (x ^^^ y ^^^ BitVec.ofNat 8 (x.toNat + y.toNat + c.toNat)) &&& 0x10 ≠ 0 ↔
      x.toNat % 16 + y.toNat % 16 + c.toNat > 15 := by
  have hbit : (x ^^^ y ^^^ BitVec.ofNat 8 (x.toNat + y.toNat + c.toNat)).getLsbD 4 = BitVec.carry 4 x y c := by
    rw [ofNat_add_carry, BitVec.getLsbD_xor, BitVec.getLsbD_xor, BitVec.getLsbD_add_add_bool (by decide)]
    cases x.getLsbD 4 <;> cases y.getLsbD 4 <;> simp
  rw [show (0x10 : Byte) = BitVec.twoPow 8 4 from rfl, ← getLsbD_iff_and_twoPow_ne_zero _ (by decide), hbit,
    BitVec.carry, decide_eq_true_iff]
  rfl

/-- Subtraction is read backwards as the addition `res + v + cin = a`, so the XOR form of H is the borrow out of the low
nibble (40_alu8.md R132). -/
theorem xor_difference_and_10_ne_zero_iff (a v : Byte) (c : Bool) :
    (a ^^^ v ^^^ BitVec.ofInt 8 ((a.toNat : Int) - v.toNat - c.toNat)) &&& 0x10 ≠ 0 ↔
      a.toNat % 16 < v.toNat % 16 + c.toNat := by
  generalize hres : BitVec.ofInt 8 ((a.toNat : Int) - v.toNat - c.toNat) = res
  have ha := a.isLt
  have hv := v.isLt
  have hc := c.toNat_le
  have hnat : res.toNat = (a.toNat + 512 - v.toNat - c.toNat) % 256 := by
    rw [← hres, BitVec.toNat_ofInt]
    omega
  have hsum : BitVec.ofNat 8 (res.toNat + v.toNat + c.toNat) = a := by
    apply BitVec.eq_of_toNat_eq
    rw [BitVec.toNat_ofNat]
    omega
  have hxor : a ^^^ v ^^^ res = res ^^^ v ^^^ a := by
    rw [BitVec.xor_comm, BitVec.xor_comm a v, ← BitVec.xor_assoc]
  have hcarry := xor_sum_and_10_ne_zero_iff res v c
  rw [hsum] at hcarry
  rw [hxor, hcarry]
  omega

/-! ### Addition, subtraction and the bitwise operations -/

theorem add8_h (a v : Byte) (cin : Bool) :
    (add8 a v cin).h = decide (a.toNat % 16 + v.toNat % 16 + cin.toNat > 15) := by
  rw [add8, and_0F_toNat, and_0F_toNat]

theorem sub8_h (a v : Byte) (cin : Bool) :
    (sub8 a v cin).h = decide (a.toNat % 16 < v.toNat % 16 + cin.toNat) :=
  decide_eq_decide.mpr (xor_difference_and_10_ne_zero_iff a v cin)

theorem sub8_c (a v : Byte) (cin : Bool) : (sub8 a v cin).c = decide (a.toNat < v.toNat + cin.toNat) := by
  rw [sub8, decide_eq_decide]
  omega

/-- Settles O15: every form is `add8` of A, the operand and its carry-in, and the XOR form is the carry out of bit 3. -/
theorem addAndAdcSetAccumulator : Obligations.AddAndAdcSetAccumulator := by
  refine ⟨fun r => ⟨encode_rowAlu .add r, encode_rowAlu .adc r⟩,
    fun v => ⟨encode_rowAluImm .add v, encode_rowAluImm .adc v⟩, fun s i v cin acc hi => ?row⟩
  case row =>
    obtain ⟨op, hop, hadd, hform⟩ :
        ∃ op : Alu, op ≠ .cp ∧ alu8 op s.a v s.flagC = add8 s.a v cin ∧ aluForm s op i v acc := by
      rcases hi with
        ⟨r, hrow, hv, rfl, hacc⟩ | ⟨hrow, rfl, hacc⟩ | ⟨r, hrow, hv, rfl, hacc⟩ | ⟨hrow, rfl, hacc⟩
      · exact ⟨.add, by decide, rfl, .inl ⟨r, hrow, hv, hacc⟩⟩
      · exact ⟨.add, by decide, rfl, .inr ⟨hrow, hacc⟩⟩
      · exact ⟨.adc, by decide, rfl, .inl ⟨r, hrow, hv, hacc⟩⟩
      · exact ⟨.adc, by decide, rfl, .inr ⟨hrow, hacc⟩⟩
    obtain ⟨t, hexec, ha, hflags, hframe⟩ := completes_aluForm hform
    rw [if_neg hop, hadd] at ha
    rw [hadd] at hflags
    obtain ⟨hz, hn, hh, hc⟩ := hflags
    rw [add8_h] at hh
    have hxor : t.flagH = decide ((s.a ^^^ v ^^^ t.a) &&& 0x10 ≠ 0) := by
      rw [hh, ha]
      exact decide_eq_decide.mpr (xor_sum_and_10_ne_zero_iff s.a v cin).symm
    exact ⟨t, hexec, ha, ⟨ha ▸ hz, hn, hh, hc⟩, hxor, hframe⟩

/-- Settles O16: every form is `sub8` of A, the operand and its borrow-in. -/
theorem subSbcAndCpSubtract : Obligations.SubSbcAndCpSubtract := by
  refine ⟨fun r => ⟨encode_rowAlu .sub r, encode_rowAlu .sbc r, encode_rowAlu .cp r⟩,
    fun v => ⟨encode_rowAluImm .sub v, encode_rowAluImm .sbc v, encode_rowAluImm .cp v⟩,
    fun s op i v cin acc hop hform => ?row⟩
  case row =>
    have hsub : alu8 op s.a v s.flagC = sub8 s.a v cin := by
      obtain ⟨rfl, rfl⟩ | ⟨rfl, rfl⟩ | ⟨rfl, rfl⟩ := hop <;> rfl
    obtain ⟨t, hexec, ha, hflags, hframe⟩ := completes_aluForm hform
    rw [hsub] at ha hflags
    obtain ⟨hz, hn, hh, hc⟩ := hflags
    exact ⟨t, hexec, ha, ⟨hz, hn, hh.trans (sub8_h s.a v cin), hc.trans (sub8_c s.a v cin)⟩, hh, hframe⟩

/-- Settles O17: each operation's result and flags are those of its bitwise function (40_alu8.md R133). -/
theorem andXorOrAreBitwise : Obligations.AndXorOrAreBitwise := by
  refine ⟨fun r => ⟨encode_rowAlu .and r, encode_rowAlu .xor r, encode_rowAlu .or r⟩,
    fun v => ⟨encode_rowAluImm .and v, encode_rowAluImm .xor v, encode_rowAluImm .or v⟩,
    fun s op i v res acc hop hform => ?row⟩
  case row =>
    obtain ⟨t, hexec, ha, hflags, hframe⟩ := completes_aluForm hform
    obtain ⟨rfl, rfl⟩ | ⟨rfl, rfl⟩ | ⟨rfl, rfl⟩ := hop <;> exact ⟨t, hexec, ha, hflags, hframe⟩

/-! ### INC and DEC -/

theorem exec_rowInc8 (r : R8) (s : State) : exec (rowInc8 r) s = .next (s.incR8 r) := by cases r <;> rfl

theorem exec_rowDec8 (r : R8) (s : State) : exec (rowDec8 r) s = .next (s.decR8 r) := by cases r <;> rfl

theorem encode_rowInc8 (r : R8) : encode (rowInc8 r) = [opByte (0x04 + 8 * codeR8 r)] := by cases r <;> rfl

theorem encode_rowDec8 (r : R8) : encode (rowDec8 r) = [opByte (0x05 + 8 * codeR8 r)] := by cases r <;> rfl

theorem add_ofNat (v : Byte) (k : Nat) : v + BitVec.ofNat 8 k = BitVec.ofNat 8 (v.toNat + k) := by
  rw [BitVec.ofNat_add, BitVec.ofNat_toNat, BitVec.setWidth_eq]

theorem add_one_eq_ofNat (v : Byte) : v + 1 = BitVec.ofNat 8 (v.toNat + 1) := add_ofNat v 1

theorem sub_one_eq_ofNat (v : Byte) : v - 1 = BitVec.ofNat 8 (v.toNat + 255) := by
  rw [BitVec.sub_eq_add_neg]
  exact add_ofNat v 255

/-- The low nibble, masked out, holds `k` exactly when it is `k` as a number. -/
theorem and_0F_eq_iff (v k : Byte) : v &&& 0x0F = k ↔ v.toNat % 16 = k.toNat := by
  rw [← BitVec.toNat_inj, and_0F_toNat]

/-- From `s` to `t` the operand `r` is read and `v` is written back to it, and nothing else but F changes; of the bus
this says only what is read and written. -/
def writesBack (r : R8) (v : Byte) (s t : State) : Prop :=
  regHolds t v r ∧ makesAccesses s t (r8Reads s r ++ r8Writes s r v) ∧ keepsRegsBut [r] s t ∧
  (r ≠ .memHl → keepsBus s t) ∧ keepsFlow s t

theorem writesBack_setR8_getR8 (s : State) (r : R8) (v : Byte) : writesBack r v s ((s.getR8 r).2.setR8 r v) := by
  obtain ⟨hread, hregs, -, hflow⟩ := leavesAllBut_getR8 s r
  have hl : (s.getR8 r).2.hl = s.hl := by rw [State.hl, State.getR8_snd_h, State.getR8_snd_l]; rfl
  refine ⟨regHolds_setR8 _ r v, ?accesses, keepsRegsBut_trans hregs (keepsRegsBut_setR8 _ r v), fun hr => ?bus,
    keepsFlow_trans hflow (keepsFlow_setR8 _ r v)⟩
  case accesses => rw [makesAccesses, State.setR8_bus, hread, hl, List.append_assoc]; rfl
  case bus =>
    apply keepsBus_of_busState
    rw [State.setR8_busState, if_neg hr, State.getR8_snd_busState]

theorem regHolds_withFlags {s : State} {r : R8} {v : Byte} (hreg : regHolds s v r) (z n h c : Bool) :
    regHolds (s.withFlags z n h c) v r := by
  cases r <;> exact hreg

/-- Writing the flags after the operand disturbs none of this. -/
theorem writesBack_withFlags {r : R8} {v : Byte} {s t : State} (hst : writesBack r v s t) (z n h c : Bool) :
    writesBack r v s (t.withFlags z n h c) := by
  obtain ⟨hreg, hacc, hregs, hbus, hflow⟩ := hst
  obtain ⟨kacc, kregs, kbus, kflow⟩ := leavesAllBut_withFlags t z n h c
  refine ⟨regHolds_withFlags hreg z n h c, hacc, keepsRegsBut_trans hregs kregs, fun hr => ?bus,
    keepsFlow_trans hflow kflow⟩
  case bus => exact keepsBus_of_busState (kbus.1.trans (hbus hr).1)

theorem writesBack_incR8 (s : State) (r : R8) : writesBack r (r8Value s r + 1) s (s.incR8 r) := by
  rw [← getR8_fst]
  exact writesBack_withFlags (writesBack_setR8_getR8 s r _) _ _ _ _

theorem writesBack_decR8 (s : State) (r : R8) : writesBack r (r8Value s r - 1) s (s.decR8 r) := by
  rw [← getR8_fst]
  exact writesBack_withFlags (writesBack_setR8_getR8 s r _) _ _ _ _

theorem flagsAre_incR8 (s : State) (r : R8) :
    flagsAre (s.incR8 r) (decide (r8Value s r + 1 = 0)) false (decide ((r8Value s r).toNat % 16 = 15)) s.flagC := by
  have hnibble : decide (r8Value s r &&& 0x0F = 0x0F) = decide ((r8Value s r).toNat % 16 = 15) :=
    decide_eq_decide.mpr (and_0F_eq_iff _ 0x0F)
  rw [← hnibble, ← getR8_fst]
  exact flagsAre_withFlags _ _ _ _ _

theorem flagsAre_decR8 (s : State) (r : R8) :
    flagsAre (s.decR8 r) (decide (r8Value s r - 1 = 0)) true (decide ((r8Value s r).toNat % 16 = 0)) s.flagC := by
  have hnibble : decide (r8Value s r &&& 0x0F = 0x00) = decide ((r8Value s r).toNat % 16 = 0) :=
    decide_eq_decide.mpr (and_0F_eq_iff _ 0x00)
  rw [← hnibble, ← getR8_fst]
  exact flagsAre_withFlags _ _ _ _ _

/-- Settles O18: an operand is read, stepped and written back, with the Carry of the state before. -/
theorem incAndDecKeepCarry : Obligations.IncAndDecKeepCarry := by
  refine ⟨fun r => ⟨encode_rowInc8 r, encode_rowDec8 r⟩, fun s r => ?inc, fun s r => ?dec⟩
  case inc =>
    have hback := writesBack_incR8 s r
    have hflags := flagsAre_incR8 s r
    rw [add_one_eq_ofNat] at hback hflags
    obtain ⟨hreg, hframe⟩ := hback
    exact ⟨s.incR8 r, exec_rowInc8 r s, hreg, hflags, hframe⟩
  case dec =>
    have hback := writesBack_decR8 s r
    have hflags := flagsAre_decR8 s r
    rw [sub_one_eq_ofNat] at hback hflags
    obtain ⟨hreg, hframe⟩ := hback
    exact ⟨s.decR8 r, exec_rowDec8 r s, hreg, hflags, hframe⟩

/-! ### DAA -/

/-- Whether DAA corrects the low digit: after an addition also by the digit itself (40_alu8.md R152). -/
def daaLow (a : Byte) (n h : Bool) : Bool := h || (!n && decide (a.toNat % 16 > 9))

/-- Whether DAA corrects the high digit: after an addition also by the byte A had (40_alu8.md R152). -/
def daaHigh (a : Byte) (n c : Bool) : Bool := c || (!n && decide (a.toNat > 153))

theorem daaLow_of_subtraction (a : Byte) (h : Bool) : daaLow a true h = h := Bool.or_false h

theorem daaHigh_of_subtraction (a : Byte) (c : Bool) : daaHigh a true c = c := Bool.or_false c

/-- What DAA adds or subtracts, as a number. -/
def daaCorr (low high : Bool) : Nat := (if low then 6 else 0) + (if high then 96 else 0)

/-- The two corrections share no bit, so their OR is their sum. -/
theorem daaCorr_eq_or (low high : Bool) :
    ((if low then 0x06 else 0) ||| (if high then 0x60 else 0) : Byte) = BitVec.ofNat 8 (daaCorr low high) := by
  cases low <;> cases high <;> rfl

theorem sub_daaCorr (a : Byte) (low high : Bool) :
    a - BitVec.ofNat 8 (daaCorr low high) = BitVec.ofNat 8 (a.toNat + 256 - daaCorr low high) := by
  have hcorr : daaCorr low high ≤ 102 := by cases low <;> cases high <;> decide
  apply BitVec.eq_of_toNat_eq
  rw [BitVec.toNat_sub, BitVec.toNat_ofNat, BitVec.toNat_ofNat]
  omega

theorem daa8_res (a : Byte) (n h c : Bool) :
    (daa8 a n h c).res =
      if n then BitVec.ofNat 8 (a.toNat + 256 - daaCorr (daaLow a n h) (daaHigh a n c))
      else BitVec.ofNat 8 (a.toNat + daaCorr (daaLow a n h) (daaHigh a n c)) := by
  cases n with
  | true => rw [daaLow_of_subtraction, daaHigh_of_subtraction, ← sub_daaCorr, ← daaCorr_eq_or]; rfl
  | false => rw [← add_ofNat, ← daaCorr_eq_or, daaLow, ← and_0F_toNat]; rfl

theorem daa8_z (a : Byte) (n h c : Bool) : (daa8 a n h c).z = decide ((daa8 a n h c).res = 0) := by cases n <;> rfl

theorem daa8_n (a : Byte) (n h c : Bool) : (daa8 a n h c).n = n := by cases n <;> rfl

theorem daa8_h (a : Byte) (n h c : Bool) : (daa8 a n h c).h = false := by cases n <;> rfl

theorem daa8_c (a : Byte) (n h c : Bool) : (daa8 a n h c).c = daaHigh a n c := by
  cases n with
  | true => exact (daaHigh_of_subtraction a c).symm
  | false => rfl

theorem leavesAllBut_daaA (s : State) : leavesAllBut [.a] [] s s.daaA :=
  leavesAllBut_trans (leavesAllBut_setA s _) (leavesAllBut_withFlags _ _ _ _ _)

theorem flagsAre_daaA (s : State) :
    flagsAre s.daaA (decide (s.daaA.a = 0)) s.flagN false (daaHigh s.a s.flagN s.flagC) := by
  have hflags : flagsAreOf s.daaA (daa8 s.a s.flagN s.flagH s.flagC) := flagsAre_withFlags _ _ _ _ _
  rw [flagsAreOf, daa8_z, daa8_n, daa8_h, daa8_c] at hflags
  exact hflags

/-- Settles O19: the result by the direction N gives, the flags from it and from the old A. -/
theorem daaCorrectsToBcd : Obligations.DaaCorrectsToBcd :=
  ⟨rfl, fun s => ⟨s.daaA, rfl, daa8_res s.a s.flagN s.flagH s.flagC, flagsAre_daaA s, leavesAllBut_daaA s⟩⟩

/-! ### CPL, SCF and CCF -/

theorem State.cplA_toNat (s : State) : s.cplA.a.toNat = 255 - s.a.toNat := BitVec.toNat_not

/-- Settles O20: each writes the flags its rule names, CPL also the complement of A. -/
theorem cplScfCcfSetFlags : Obligations.CplScfCcfSetFlags := by
  refine ⟨rfl, rfl, rfl, fun s => ?cpl, fun s => ?scf, fun s => ?ccf⟩
  case cpl =>
    exact ⟨s.cplA, rfl, s.cplA_toNat, flagsAre_withFlags _ _ _ _ _,
      leavesAllBut_trans (leavesAllBut_setA s _) (leavesAllBut_withFlags _ _ _ _ _)⟩
  case scf => exact ⟨s.scfF, rfl, flagsAre_withFlags _ _ _ _ _, leavesAllBut_withFlags _ _ _ _ _⟩
  case ccf => exact ⟨s.ccfF, rfl, flagsAre_withFlags _ _ _ _ _, leavesAllBut_withFlags _ _ _ _ _⟩

end Sys2Proof.Machine
end

section
/-! PROOFS. 41_alu16.md, and 46_load16_stack.md R315: arithmetic on pairs and on SP, and O21 to O23. -/
namespace Sys2Proof.Machine

/-! ### The low bits of a word, and a signed offset -/

/-- A mask of ones keeps the remainder by the power of two above it. -/
theorem and_lowOnes_toNat (w : Word) {k : Nat} (hk : k ≤ 16) :
    (w &&& BitVec.ofNat 16 (2 ^ k - 1)).toNat = w.toNat % 2 ^ k := by
  have hpow : 2 ^ k ≤ 2 ^ 16 := Nat.pow_le_pow_right (by decide) hk
  rw [BitVec.toNat_and, BitVec.toNat_ofNat, Nat.mod_eq_of_lt (by omega), Nat.and_two_pow_sub_one_eq_mod]

theorem add_sext16 (w : Word) (e : Byte) : w + sext16 e = BitVec.ofInt 16 (w.toNat + e.toInt) := by
  rw [BitVec.ofInt_add, BitVec.ofInt_natCast, BitVec.ofNat_toNat, BitVec.setWidth_eq]
  rfl

theorem sub_one_toNat (w : Word) : (w - 1).toNat = (w.toNat + 65535) % 65536 := by
  rw [BitVec.toNat_sub, Nat.add_comm]
  rfl

/-! ### The carries of the 16-bit additions -/

theorem add16H_eq (a v : Word) : add16H a v = decide (a.toNat % 4096 + v.toNat % 4096 > 4095) := by
  have hlow (w : Word) : (w &&& 0x0FFF).toNat = w.toNat % 4096 := and_lowOnes_toNat w (k := 12) (by decide)
  rw [add16H, hlow, hlow]

theorem spE8H_eq (sp : Word) (e : Byte) : spE8H sp e = decide (sp.toNat % 16 + e.toNat % 16 > 15) := by
  have hlow : (sp &&& 0x000F).toNat = sp.toNat % 16 := and_lowOnes_toNat sp (k := 4) (by decide)
  rw [spE8H, hlow, and_0F_toNat]

theorem spE8C_eq (sp : Word) (e : Byte) : spE8C sp e = decide (sp.toNat % 256 + e.toNat > 255) := by
  have hlow : (sp &&& 0x00FF).toNat = sp.toNat % 256 := and_lowOnes_toNat sp (k := 8) (by decide)
  rw [spE8C, hlow]

/-! ### ADD HL -/

theorem encode_rowAddHl (p : Rp) : encode (rowAddHl p) = [opByte (0x09 + 16 * codeRp p)] := by cases p <;> rfl

theorem exec_rowAddHl (p : Rp) (s : State) : exec (rowAddHl p) s = .next (s.addHlRp p) := by cases p <;> rfl

theorem hl_withFlags (s : State) (z n h c : Bool) : (s.withFlags z n h c).hl = s.hl := rfl

theorem State.addHlRp_hl (s : State) (p : Rp) : (s.addHlRp p).hl = BitVec.ofNat 16 (s.hl.toNat + (s.getRp p).toNat) := by
  rw [State.addHlRp, hl_withFlags, hl_setHl, add16Res]

theorem flagsAre_addHlRp (s : State) (p : Rp) :
    flagsAre (s.addHlRp p) s.flagZ false (decide (s.hl.toNat % 4096 + (s.getRp p).toNat % 4096 > 4095))
      (decide (s.hl.toNat + (s.getRp p).toNat > 65535)) := by
  rw [← add16H_eq]
  exact flagsAre_withFlags _ _ _ _ _

theorem keepsFlow_setHl (s : State) (w : Word) : keepsFlow s (s.setHl w) := by simp [keepsFlow, keepsControl]

theorem leavesAllBut_setHl (s : State) (w : Word) : leavesAllBut [.h, .l] [] s (s.setHl w) :=
  ⟨makesAccesses_none rfl, keepsRegsBut_setHl s w, keepsBus_of_busState rfl, keepsFlow_setHl s w⟩

theorem leavesAllBut_addHlRp (s : State) (p : Rp) : leavesAllBut [.h, .l] [] s (s.addHlRp p) :=
  leavesAllBut_trans (leavesAllBut_setHl s _) (leavesAllBut_withFlags _ _ _ _ _)

/-- Settles O21: the sum and its two carries by the masks of R180, with the Zero flag of the state before. -/
theorem addHlSetsCarriesKeepsZero : Obligations.AddHlSetsCarriesKeepsZero := fun s p =>
  ⟨encode_rowAddHl p, s.addHlRp p, exec_rowAddHl p s, s.addHlRp_hl p, flagsAre_addHlRp s p, leavesAllBut_addHlRp s p⟩

/-! ### INC and DEC on a pair -/

theorem encode_rowInc16 (p : Rp) : encode (rowInc16 p) = [opByte (0x03 + 16 * codeRp p)] := by cases p <;> rfl

theorem encode_rowDec16 (p : Rp) : encode (rowDec16 p) = [opByte (0x0B + 16 * codeRp p)] := by cases p <;> rfl

theorem exec_rowInc16 (p : Rp) (s : State) : exec (rowInc16 p) s = .next (s.incRp p) := by cases p <;> rfl

theorem exec_rowDec16 (p : Rp) (s : State) : exec (rowDec16 p) s = .next (s.decRp p) := by cases p <;> rfl

theorem getRp_incRp_toNat (s : State) (p : Rp) :
    ((s.incRp p).getRp p).toNat = ((s.getRp p).toNat + 1) % 65536 := by
  rw [State.incRp, getRp_setRp]
  exact BitVec.toNat_add _ _

theorem getRp_decRp_toNat (s : State) (p : Rp) :
    ((s.decRp p).getRp p).toNat = ((s.getRp p).toNat + 65535) % 65536 := by
  rw [State.decRp, getRp_setRp, sub_one_toNat]

theorem setRp_sp_of_ne (s : State) {p : Rp} (hp : p ≠ .sp) (w : Word) : (s.setRp p w).sp = s.sp := by
  cases p with
  | sp => exact absurd rfl hp
  | _ => rfl

theorem keepsRegsBut_setSp (s : State) (w : Word) : keepsRegsBut [] s (s.setSp w) := by simp [keepsRegsBut]

theorem keepsRegsBut_setRp (s : State) (p : Rp) (w : Word) : keepsRegsBut (rpRegs p) s (s.setRp p w) := by
  cases p with
  | bc => exact keepsRegsBut_setBc s w
  | de => exact keepsRegsBut_setDe s w
  | hl => exact keepsRegsBut_setHl s w
  | sp => exact keepsRegsBut_setSp s w

theorem keepsControl_setRp (s : State) (p : Rp) (w : Word) : keepsControl s (s.setRp p w) := by simp [keepsControl]

/-- From `s` to `t` nothing but the pair `p` changes, and the bus is not accessed. -/
def leavesAllButRp (p : Rp) (s t : State) : Prop :=
  (p ≠ .sp → t.sp = s.sp) ∧ keepsRegsBut (rpRegs p) s t ∧ t.f = s.f ∧ keepsBus s t ∧
  t.pc = s.pc ∧ t.addcyc = s.addcyc ∧ keepsControl s t ∧ makesAccesses s t []

theorem leavesAllButRp_setRp (s : State) (p : Rp) (w : Word) : leavesAllButRp p s (s.setRp p w) :=
  ⟨fun hp => setRp_sp_of_ne s hp w, keepsRegsBut_setRp s p w, s.setRp_f p w,
    keepsBus_of_busState (s.setRp_busState p w), s.setRp_pc p w, s.setRp_addcyc p w, keepsControl_setRp s p w,
    makesAccesses_none (congrArg Output.bus (s.setRp_out p w))⟩

/-- Settles O22: each is one write of the pair, which leaves F as every such write does. -/
theorem incAndDecPairsWrap : Obligations.IncAndDecPairsWrap := fun s p =>
  ⟨⟨encode_rowInc16 p, encode_rowDec16 p⟩,
    ⟨s.incRp p, exec_rowInc16 p s, getRp_incRp_toNat s p, leavesAllButRp_setRp s p _⟩,
    ⟨s.decRp p, exec_rowDec16 p s, getRp_decRp_toNat s p, leavesAllButRp_setRp s p _⟩⟩

/-! ### SP plus a signed offset -/

/-- The flags are those of the byte addition, whatever else was written before them (41_alu16.md R184). -/
theorem flagsAre_spE8Flags (s : State) (sp : Word) (e : Byte) :
    flagsAre (s.spE8Flags sp e) false false (decide (sp.toNat % 16 + e.toNat % 16 > 15))
      (decide (sp.toNat % 256 + e.toNat > 255)) := by
  rw [← spE8H_eq, ← spE8C_eq]
  exact flagsAre_withFlags _ _ _ _ _

theorem State.addSpE_sp (s : State) (e : Byte) : (s.addSpE e).sp = BitVec.ofInt 16 (s.sp.toNat + e.toInt) :=
  add_sext16 s.sp e

theorem keepsRegsBut_addSpE (s : State) (e : Byte) : keepsRegsBut [] s (s.addSpE e) :=
  keepsRegsBut_trans (keepsRegsBut_setSp s _) (keepsRegsBut_setF _ _)

theorem keepsControl_addSpE (s : State) (e : Byte) : keepsControl s (s.addSpE e) := by
  simp [State.addSpE, State.spE8Flags, keepsControl]

theorem State.ldHlSpE_hl (s : State) (e : Byte) : (s.ldHlSpE e).hl = BitVec.ofInt 16 (s.sp.toNat + e.toInt) := by
  rw [State.ldHlSpE, State.spE8Flags, hl_withFlags, hl_setHl, add_sext16]

theorem leavesAllBut_ldHlSpE (s : State) (e : Byte) : leavesAllBut [.h, .l] [] s (s.ldHlSpE e) :=
  leavesAllBut_trans (leavesAllBut_setHl s _) (leavesAllBut_withFlags _ _ _ _ _)

/-- Settles O23: one sum and one pair of carries for both, written to SP by the one and to HL by the other. -/
theorem spOffsetUsesLowByteCarries : Obligations.SpOffsetUsesLowByteCarries := by
  refine fun s e => ⟨⟨rfl, rfl⟩, ?addSp, ?ldHl⟩
  case addSp =>
    exact ⟨s.addSpE e, rfl, s.addSpE_sp e, flagsAre_spE8Flags _ s.sp e, keepsRegsBut_addSpE s e,
      keepsBus_of_busState rfl, rfl, rfl, keepsControl_addSpE s e, makesAccesses_none rfl⟩
  case ldHl =>
    obtain ⟨hacc, hregs, hbus, hflow⟩ := leavesAllBut_ldHlSpE s e
    exact ⟨s.ldHlSpE e, rfl, s.ldHlSpE_hl e, flagsAre_spE8Flags _ s.sp e, hregs, hbus, hflow, hacc⟩

end Sys2Proof.Machine
end

section
/-! PROOFS. 42_rotate_shift_bit.md: the rotates, shifts and bit operations bit by bit, and O24 to O27. -/
namespace Sys2Proof.Machine

/-! ### The secondary table by operand -/

/-- Every operand has a register code (10_state.md R24). -/
theorem exists_r8_ofCode (r : R8) : ∃ z : Octal, R8.ofCode z = r := by
  cases r with
  | b => exact ⟨.n0, rfl⟩
  | c => exact ⟨.n1, rfl⟩
  | d => exact ⟨.n2, rfl⟩
  | e => exact ⟨.n3, rfl⟩
  | h => exact ⟨.n4, rfl⟩
  | l => exact ⟨.n5, rfl⟩
  | memHl => exact ⟨.n6, rfl⟩
  | a => exact ⟨.n7, rfl⟩

theorem encode_rowRot_ofCode (y : Octal) (r : R8) :
    encode (rowRot (Rot.ofCode y) r) = [0xCB, opByte (8 * y.toNat + codeR8 r)] := by
  obtain ⟨z, rfl⟩ := exists_r8_ofCode r
  rw [encode_rowRot, codeR8_ofCode, Nat.mul_zero, Nat.zero_add]

theorem encode_rowBit_r8 (b : Octal) (r : R8) :
    encode (rowBit b r) = [0xCB, opByte (0x40 + 8 * b.toNat + codeR8 r)] := by
  obtain ⟨z, rfl⟩ := exists_r8_ofCode r
  rw [encode_rowBit, codeR8_ofCode]

theorem encode_rowRes_r8 (b : Octal) (r : R8) :
    encode (rowRes b r) = [0xCB, opByte (0x80 + 8 * b.toNat + codeR8 r)] := by
  obtain ⟨z, rfl⟩ := exists_r8_ofCode r
  rw [encode_rowRes, codeR8_ofCode]

theorem encode_rowSet_r8 (b : Octal) (r : R8) :
    encode (rowSet b r) = [0xCB, opByte (0xC0 + 8 * b.toNat + codeR8 r)] := by
  obtain ⟨z, rfl⟩ := exists_r8_ofCode r
  rw [encode_rowSet, codeR8_ofCode]

theorem exec_rowRot (k : Rot) (r : R8) (s : State) : exec (rowRot k r) s = .next (s.rotR8 k r) := by
  cases k <;> cases r <;> rfl

theorem exec_rowBit (b : Octal) (r : R8) (s : State) : exec (rowBit b r) s = .next (s.bitR8 b r) := by
  cases b <;> cases r <;> rfl

theorem exec_rowRes (b : Octal) (r : R8) (s : State) : exec (rowRes b r) s = .next (s.resR8 b r) := by
  cases b <;> cases r <;> rfl

theorem exec_rowSet (b : Octal) (r : R8) (s : State) : exec (rowSet b r) s = .next (s.setBitR8 b r) := by
  cases b <;> cases r <;> rfl

/-! ### The result of a rotate, bit by bit -/

/-- Moved left by one place, with `c` entering at bit 0. -/
theorem getLsbD_shiftInLow (v : Byte) (c : Bool) {j : Nat} (hj : j < 8) :
    (v.extractLsb' 0 7 ++ BitVec.ofBool c).getLsbD j = if j = 0 then c else v.getLsbD (j - 1) := by
  rw [BitVec.getLsbD_append, BitVec.getLsbD_extractLsb']
  cases j with
  | zero => simp
  | succ i => simp [show i < 7 by omega]

/-- Moved right by one place, with `c` entering at bit 7. -/
theorem getLsbD_shiftInHigh (v : Byte) (c : Bool) {j : Nat} (hj : j < 8) :
    (BitVec.ofBool c ++ v.extractLsb' 1 7).getLsbD j = if j = 7 then c else v.getLsbD (j + 1) := by
  rw [BitVec.getLsbD_append, BitVec.getLsbD_extractLsb', Nat.add_comm 1 j]
  by_cases h : j = 7
  · simp [h]
  · simp [h, show j < 7 by omega]

theorem getLsbD_swapNibbles (v : Byte) {j : Nat} (hj : j < 8) :
    (v.extractLsb' 0 4 ++ v.extractLsb' 4 4).getLsbD j = v.getLsbD ((j + 4) % 8) := by
  rw [BitVec.getLsbD_append, BitVec.getLsbD_extractLsb', BitVec.getLsbD_extractLsb']
  by_cases h : j < 4
  · simp [h, Nat.add_comm 4 j, show (j + 4) % 8 = j + 4 by omega]
  · simp [h, show j - 4 < 4 by omega, show (j + 4) % 8 = j - 4 by omega]

/-- A left rotate takes the bit below, round the byte. -/
theorem getLsbD_leftRotate (v : Byte) {j : Nat} (hj : j < 8) :
    (if j = 0 then v.getLsbD 7 else v.getLsbD (j - 1)) = v.getLsbD ((j + 7) % 8) := by
  interval_cases j <;> rfl

/-- A right rotate takes the bit above, round the byte. -/
theorem getLsbD_rightRotate (v : Byte) {j : Nat} (hj : j < 8) :
    (if j = 7 then v.getLsbD 0 else v.getLsbD (j + 1)) = v.getLsbD ((j + 1) % 8) := by
  interval_cases j <;> rfl

/-- The concatenations of R195 to R202 are the rotations bit by bit: each kind is a move by one place with its own
entering bit, but for SWAP. -/
theorem getLsbD_rotRes (k : Rot) (v : Byte) (carry : Bool) :
    ∀ j < 8, (rotRes k v carry).getLsbD j = rotatedBit k v carry j := by
  intro j hj
  cases k with
  | rlc => exact (getLsbD_shiftInLow v _ hj).trans (getLsbD_leftRotate v hj)
  | rrc => exact (getLsbD_shiftInHigh v _ hj).trans (getLsbD_rightRotate v hj)
  | rl => exact getLsbD_shiftInLow v carry hj
  | rr => exact getLsbD_shiftInHigh v carry hj
  | sla => exact getLsbD_shiftInLow v false hj
  | sra => exact getLsbD_shiftInHigh v _ hj
  | swap => exact getLsbD_swapNibbles v hj
  | srl => exact getLsbD_shiftInHigh v false hj

/-! ### The accumulator rotates -/

theorem leavesAllBut_rotA (s : State) (k : Rot) : leavesAllBut [.a] [] s (s.rotA k) :=
  leavesAllBut_trans (leavesAllBut_setA s _) (leavesAllBut_withFlags _ _ _ _ _)

/-- Settles O24: each is a rotate kind on A, with the Carry of that kind and the other flags written as 0. -/
theorem accumulatorRotatesClearZero : Obligations.AccumulatorRotatesClearZero := by
  refine ⟨rfl, rfl, rfl, rfl, fun s i k c hform => ?row⟩
  case row =>
    obtain ⟨hexec, rfl⟩ : exec i s = .next (s.rotA k) ∧ c = rotCarry k s.a := by
      obtain ⟨rfl, rfl, rfl⟩ | ⟨rfl, rfl, rfl⟩ | ⟨rfl, rfl, rfl⟩ | ⟨rfl, rfl, rfl⟩ := hform <;> exact ⟨rfl, rfl⟩
    exact ⟨s.rotA k, hexec, getLsbD_rotRes k s.a s.flagC, flagsAre_withFlags _ _ _ _ _, leavesAllBut_rotA s k⟩

/-! ### The rotates and shifts of the secondary table -/

theorem writesBack_rotR8 (s : State) (k : Rot) (r : R8) :
    writesBack r (rotRes k (r8Value s r) s.flagC) s (s.rotR8 k r) := by
  rw [← getR8_fst]
  exact writesBack_withFlags (writesBack_setR8_getR8 s r _) _ _ _ _

theorem flagsAre_rotR8 (s : State) (k : Rot) (r : R8) :
    flagsAre (s.rotR8 k r) (decide (rotRes k (r8Value s r) s.flagC = 0)) false false (rotCarry k (r8Value s r)) := by
  rw [← getR8_fst]
  exact flagsAre_withFlags _ _ _ _ _

/-- Settles O25: an operand is read, rotated with the Carry of the state before, and written back. -/
theorem secondaryRotatesComputeZero : Obligations.SecondaryRotatesComputeZero := by
  intro s k n c r hform
  obtain ⟨y, rfl, rfl, rfl⟩ : ∃ y, k = Rot.ofCode y ∧ n = 8 * y.toNat ∧ c = rotCarry k (r8Value s r) := by
    rcases hform with ⟨rfl, hrow⟩ | ⟨rfl, hrow⟩ | ⟨rfl, hrow⟩ | ⟨rfl, hrow⟩ | ⟨rfl, hrow⟩ | ⟨rfl, hrow⟩ |
      ⟨rfl, hrow⟩ | ⟨rfl, hrow⟩
    · exact ⟨.n0, rfl, hrow⟩
    · exact ⟨.n1, rfl, hrow⟩
    · exact ⟨.n2, rfl, hrow⟩
    · exact ⟨.n3, rfl, hrow⟩
    · exact ⟨.n4, rfl, hrow⟩
    · exact ⟨.n5, rfl, hrow⟩
    · exact ⟨.n6, rfl, hrow⟩
    · exact ⟨.n7, rfl, hrow⟩
  obtain ⟨hreg, hframe⟩ := writesBack_rotR8 s (Rot.ofCode y) r
  exact ⟨encode_rowRot_ofCode y r, s.rotR8 (Rot.ofCode y) r, exec_rowRot _ r s, _, getLsbD_rotRes _ _ _, hreg,
    flagsAre_rotR8 s _ r, hframe⟩

/-! ### BIT -/

theorem flagsAre_bitR8 (s : State) (b : Octal) (r : R8) :
    flagsAre (s.bitR8 b r) (!(r8Value s r).getLsbD b.toNat) false true s.flagC := by
  rw [← getR8_fst]
  exact flagsAre_withFlags _ _ _ _ _

theorem leavesAllBut_bitR8 (s : State) (b : Octal) (r : R8) : leavesAllBut [] (r8Reads s r) s (s.bitR8 b r) :=
  leavesAllBut_trans (leavesAllBut_getR8 s r) (leavesAllBut_withFlags _ _ _ _ _)

/-- Settles O26: an operand is read, and only flags are written. -/
theorem bitTestsWithoutWriting : Obligations.BitTestsWithoutWriting := fun s b r =>
  ⟨encode_rowBit_r8 b r, s.bitR8 b r, exec_rowBit b r s, flagsAre_bitR8 s b r, leavesAllBut_bitR8 s b r⟩

/-! ### RES and SET -/

theorem getLsbD_oneBit (b : Octal) {j : Nat} (hj : j < 8) :
    (1#8 <<< b.toNat).getLsbD j = decide (j = b.toNat) := by
  rw [← BitVec.twoPow_eq, BitVec.getLsbD_twoPow, ← Bool.decide_and, decide_eq_decide]
  omega

theorem getLsbD_resBit (b : Octal) (v : Byte) {j : Nat} (hj : j < 8) :
    (resBit b v).getLsbD j = if j = b.toNat then false else v.getLsbD j := by
  rw [resBit, BitVec.getLsbD_and, BitVec.getLsbD_not, getLsbD_oneBit b hj]
  by_cases h : j = b.toNat <;> simp [h, hj]

theorem getLsbD_setBit (b : Octal) (v : Byte) {j : Nat} (hj : j < 8) :
    (setBit b v).getLsbD j = if j = b.toNat then true else v.getLsbD j := by
  rw [setBit, BitVec.getLsbD_or, getLsbD_oneBit b hj]
  by_cases h : j = b.toNat <;> simp [h]

/-- From `s` to `t` the operand `r` is read and written back with its bit `b` made `on`, and no flag changes. -/
def putsBit (b : Octal) (on : Bool) (r : R8) (s t : State) : Prop :=
  ∃ res : Byte,
    (∀ j < 8, res.getLsbD j = if j = b.toNat then on else (r8Value s r).getLsbD j) ∧ regHolds t res r ∧
    makesAccesses s t (r8Reads s r ++ r8Writes s r res) ∧ keepsRegsBut [r] s t ∧ t.f = s.f ∧
    (r ≠ .memHl → keepsBus s t) ∧ keepsFlow s t

theorem putsBit_setR8_getR8 (s : State) (r : R8) {b : Octal} {on : Bool} {res : Byte}
    (hres : ∀ j < 8, res.getLsbD j = if j = b.toNat then on else (r8Value s r).getLsbD j) :
    putsBit b on r s ((s.getR8 r).2.setR8 r res) := by
  obtain ⟨hreg, hacc, hregs, hbus, hflow⟩ := writesBack_setR8_getR8 s r res
  have hf : ((s.getR8 r).2.setR8 r res).f = s.f := (State.setR8_f _ r res).trans (s.getR8_snd_f r)
  exact ⟨res, hres, hreg, hacc, hregs, hf, hbus, hflow⟩

theorem putsBit_resR8 (s : State) (b : Octal) (r : R8) : putsBit b false r s (s.resR8 b r) :=
  putsBit_setR8_getR8 s r fun _ hj => getR8_fst s r ▸ getLsbD_resBit b _ hj

theorem putsBit_setBitR8 (s : State) (b : Octal) (r : R8) : putsBit b true r s (s.setBitR8 b r) :=
  putsBit_setR8_getR8 s r fun _ hj => getR8_fst s r ▸ getLsbD_setBit b _ hj

/-- Settles O27: an operand is read and written back with the one bit cleared or set, whatever it was. -/
theorem resAndSetChangeOneBit : Obligations.ResAndSetChangeOneBit := fun s b r =>
  ⟨⟨encode_rowRes_r8 b r, encode_rowSet_r8 b r⟩,
    ⟨s.resR8 b r, exec_rowRes b r s, putsBit_resR8 s b r⟩,
    ⟨s.setBitR8 b r, exec_rowSet b r s, putsBit_setBitR8 s b r⟩⟩

end Sys2Proof.Machine
end

section
/-! PROOFS. 43_control_flow.md: jumps, calls and returns, taken and untaken, and O30 to O34. -/
namespace Sys2Proof.Machine

/-! ### The conditions (43_control_flow.md R220) -/

theorem codeCond_ofY (y : Octal) : codeCond (Cond.ofY y) = y.toNat % 4 := by cases y <;> rfl

theorem cond_eq_condHolds (s : State) (cc : Cond) : s.cond cc = condHolds s cc := by cases cc <;> rfl

/-! ### What a state keeps of itself -/

theorem keepsControl_refl (s : State) : keepsControl s s := ⟨rfl, rfl, rfl, rfl, rfl, rfl⟩

theorem keepsRegsBut_refl (xs : List R8) (s : State) : keepsRegsBut xs s s := by simp [keepsRegsBut]

theorem keepsBus_refl (s : State) : keepsBus s s := keepsBus_of_busState rfl

theorem keepsData_refl (s : State) : keepsData s s := ⟨keepsRegsBut_refl [] s, rfl, keepsBus_refl s⟩

/-! ### Jumps -/

/-- From `s` to `t` nothing but PC changes, and the bus is not accessed. -/
def leavesAllButPc (s t : State) : Prop :=
  keepsData s t ∧ t.sp = s.sp ∧ t.addcyc = s.addcyc ∧ keepsControl s t ∧ makesAccesses s t []

theorem leavesAllButPc_setPc (s : State) (w : Word) : leavesAllButPc s (s.setPc w) :=
  ⟨keepsData_refl s, rfl, rfl, keepsControl_refl s, makesAccesses_none rfl⟩

theorem State.jr_pc (s : State) (e : Byte) : (s.jr e).pc = BitVec.ofInt 16 (s.pc.toNat + e.toInt) :=
  add_sext16 s.pc e

/-- Settles O30: each is one write of PC. -/
theorem unconditionalJumpsSetPc : Obligations.UnconditionalJumpsSetPc :=
  ⟨fun s w => ⟨rfl, s.setPc w, rfl, rfl, leavesAllButPc_setPc s w⟩,
    fun s => ⟨rfl, s.setPc s.hl, rfl, rfl, leavesAllButPc_setPc s s.hl⟩,
    fun s e => ⟨rfl, s.jr e, rfl, s.jr_pc e, leavesAllButPc_setPc s _⟩⟩

theorem encode_rowJp (cc : Cond) (w : Word) :
    encode (rowJp cc w) = [opByte (0xC2 + 8 * codeCond cc), lo8 w, hi8 w] := by cases cc <;> rfl

theorem encode_rowJr (cc : Cond) (e : Byte) : encode (rowJr cc e) = [opByte (0x20 + 8 * codeCond cc), e] := by
  cases cc <;> rfl

theorem exec_rowJp (cc : Cond) (w : Word) (s : State) : exec (rowJp cc w) s = .next (s.jpCond cc w) := by
  cases cc <;> rfl

theorem exec_rowJr (cc : Cond) (e : Byte) (s : State) : exec (rowJr cc e) s = .next (s.jrCond cc e) := by
  cases cc <;> rfl

/-- From `s` to `t` PC becomes `target` and `n` cycles are added if `taken`, and nothing else changes. -/
def jumpsIf (taken : Bool) (target : Word) (n : Nat) (s t : State) : Prop :=
  t.pc = (if taken then target else s.pc) ∧ t.addcyc = (if taken then s.addcyc + n else s.addcyc) ∧
  keepsData s t ∧ t.sp = s.sp ∧ keepsControl s t ∧ makesAccesses s t []

theorem jumpsIf_ite (taken : Bool) (target : Word) (n : Nat) (s : State) :
    jumpsIf taken target n s (if taken then (s.setPc target).addCycles n else s) := by
  cases taken with
  | true => exact ⟨rfl, rfl, keepsData_refl s, rfl, keepsControl_refl s, makesAccesses_none rfl⟩
  | false => exact ⟨rfl, rfl, keepsData_refl s, rfl, keepsControl_refl s, makesAccesses_none rfl⟩

theorem jumpsIf_jpCond (s : State) (cc : Cond) (w : Word) :
    jumpsIf (condHolds s cc) w s.params.cyc.takenJp s (s.jpCond cc w) := by
  rw [← cond_eq_condHolds]
  exact jumpsIf_ite _ w _ s

theorem jumpsIf_jrCond (s : State) (cc : Cond) (e : Byte) :
    jumpsIf (condHolds s cc) (BitVec.ofInt 16 (s.pc.toNat + e.toInt)) s.params.cyc.takenJr s (s.jrCond cc e) := by
  rw [← cond_eq_condHolds, ← add_sext16]
  exact jumpsIf_ite _ _ _ s

/-- Settles O31: JP and JR on a condition are one conditional jump, each with its own target and cycles. -/
theorem conditionalJumpsFollowFlags : Obligations.ConditionalJumpsFollowFlags :=
  ⟨codeCond_ofY,
    fun s cc w => ⟨encode_rowJp cc w, s.jpCond cc w, exec_rowJp cc w s, jumpsIf_jpCond s cc w⟩,
    fun s cc e => ⟨encode_rowJr cc e, s.jrCond cc e, exec_rowJr cc e s, jumpsIf_jrCond s cc e⟩⟩

/-! ### Calls -/

/-- The accesses of pushing the PC of `s`, high byte first (20_memory.md R68). -/
def pcPushes (s : State) : List BusEvent := [.write (s.sp - 1) (hi8 s.pc), .write (s.sp - 2) (lo8 s.pc)]

/-- From `s` to `t` PC is pushed and becomes `target`; of the bus this says only what is written. -/
def calls (target : Word) (s t : State) : Prop :=
  t.pc = target ∧ t.sp = s.sp - 2 ∧ makesAccesses s t (pcPushes s) ∧ keepsRegsBut [] s t ∧ t.f = s.f ∧
  t.addcyc = s.addcyc ∧ keepsControl s t

theorem calls_call (s : State) (w : Word) : calls w s (s.call w) :=
  ⟨rfl, s.push16_sp s.pc, s.push16_bus s.pc, keepsRegsBut_push16 s s.pc, s.push16_f s.pc, s.push16_addcyc s.pc,
    keepsControl_push16 s s.pc⟩

theorem encode_rowRst (n : Octal) : encode (rowRst n) = [opByte (0xC7 + 8 * n.toNat)] := by cases n <;> rfl

theorem exec_rowRst (n : Octal) (s : State) : exec (rowRst n) s = .next (s.rst n) := by cases n <;> rfl

/-- Settles O32: RST is a call of its vector. -/
theorem callAndRstPushReturnAddress : Obligations.CallAndRstPushReturnAddress := by
  refine ⟨fun _ => rfl, encode_rowRst, fun s i w hform => ?row⟩
  case row =>
    have hexec : exec i s = .next (s.call w) := by
      obtain rfl | ⟨n, rfl, rfl⟩ := hform
      · rfl
      · exact exec_rowRst n s
    exact ⟨s.call w, hexec, calls_call s w⟩

theorem encode_rowCall (cc : Cond) (w : Word) :
    encode (rowCall cc w) = [opByte (0xC4 + 8 * codeCond cc), lo8 w, hi8 w] := by cases cc <;> rfl

theorem exec_rowCall (cc : Cond) (w : Word) (s : State) : exec (rowCall cc w) s = .next (s.callCond cc w) := by
  cases cc <;> rfl

/-- From `s` to `t` PC is pushed and becomes `target` and `n` cycles are added if `taken`; otherwise nothing changes. -/
def callsIf (taken : Bool) (target : Word) (n : Nat) (s t : State) : Prop :=
  t.pc = (if taken then target else s.pc) ∧ t.sp = (if taken then s.sp - 2 else s.sp) ∧
  t.addcyc = (if taken then s.addcyc + n else s.addcyc) ∧
  makesAccesses s t (if taken then pcPushes s else []) ∧ (taken = false → keepsBus s t) ∧ keepsRegsBut [] s t ∧
  t.f = s.f ∧ keepsControl s t

/-- Added cycles change nothing else that a call does. -/
theorem callsIf_ite (taken : Bool) (target : Word) (n : Nat) (s : State) :
    callsIf taken target n s (if taken then (s.call target).addCycles n else s) := by
  cases taken with
  | true =>
    obtain ⟨hpc, hsp, hacc, hregs, hf, haddcyc, hcontrol⟩ := calls_call s target
    exact ⟨hpc, hsp, congrArg (· + n) haddcyc, hacc, Bool.noConfusion, hregs, hf, hcontrol⟩
  | false =>
    exact ⟨rfl, rfl, rfl, makesAccesses_none rfl, fun _ => keepsBus_refl s, keepsRegsBut_refl [] s, rfl,
      keepsControl_refl s⟩

theorem callsIf_callCond (s : State) (cc : Cond) (w : Word) :
    callsIf (condHolds s cc) w s.params.cyc.takenCall s (s.callCond cc w) := by
  rw [← cond_eq_condHolds]
  exact callsIf_ite _ w _ s

/-! ### Returns -/

/-- The accesses of a pop in `s`, low byte first (20_memory.md R69). -/
def wordPops (s : State) : List BusEvent := [.read s.sp (s.peek s.sp), .read (s.sp + 1) (s.peek (s.sp + 1))]

/-- From `s` to `t` PC is popped, and nothing but PC, SP and the record of the bus changes. -/
def returns (s t : State) : Prop :=
  t.pc.toNat = (s.peek (s.sp + 1)).toNat * 256 + (s.peek s.sp).toNat ∧ t.sp = s.sp + 2 ∧
  makesAccesses s t (wordPops s) ∧ keepsData s t ∧ t.addcyc = s.addcyc ∧ keepsControl s t

theorem returns_ret (s : State) : returns s s.ret :=
  ⟨s.pop16_toNat, s.pop16_snd_sp, s.pop16_bus, keepsData_pop16 s, s.pop16_snd_addcyc, keepsControl_pop16 s⟩

/-- RETI is RET after IME is set (43_control_flow.md R234). -/
theorem State.returnFromInterrupt_eq (s : State) : s.returnFromInterrupt = (s.setIme true).ret := rfl

/-- Settles O33: RETI returns from the state with IME set, which differs from the state before in nothing else. -/
theorem retAndRetiPopPc : Obligations.RetAndRetiPopPc := by
  refine ⟨rfl, rfl, fun s => ⟨s.ret, rfl, returns_ret s⟩, fun s => ?reti⟩
  case reti =>
    have hret := returns_ret (s.setIme true)
    rw [← State.returnFromInterrupt_eq] at hret
    obtain ⟨hpc, hsp, hacc, hdata, haddcyc, hime, hrest⟩ := hret
    exact ⟨s.returnFromInterrupt, rfl, hime, hpc, hsp, hacc, hdata, haddcyc, hrest⟩

theorem encode_rowRet (cc : Cond) : encode (rowRet cc) = [opByte (0xC0 + 8 * codeCond cc)] := by cases cc <;> rfl

theorem exec_rowRet (cc : Cond) (s : State) : exec (rowRet cc) s = .next (s.retCond cc) := by cases cc <;> rfl

/-- From `s` to `t` PC is popped and `n` cycles are added if `taken`; otherwise nothing changes. -/
def returnsIf (taken : Bool) (n : Nat) (s t : State) : Prop :=
  t.pc.toNat = (if taken then (s.peek (s.sp + 1)).toNat * 256 + (s.peek s.sp).toNat else s.pc.toNat) ∧
  t.sp = (if taken then s.sp + 2 else s.sp) ∧ t.addcyc = (if taken then s.addcyc + n else s.addcyc) ∧
  makesAccesses s t (if taken then wordPops s else []) ∧ keepsData s t ∧ keepsControl s t

/-- Added cycles change nothing else that a return does. -/
theorem returnsIf_ite (taken : Bool) (n : Nat) (s : State) :
    returnsIf taken n s (if taken then s.ret.addCycles n else s) := by
  cases taken with
  | true =>
    obtain ⟨hpc, hsp, hacc, hdata, haddcyc, hcontrol⟩ := returns_ret s
    exact ⟨hpc, hsp, congrArg (· + n) haddcyc, hacc, hdata, hcontrol⟩
  | false => exact ⟨rfl, rfl, rfl, makesAccesses_none rfl, keepsData_refl s, keepsControl_refl s⟩

theorem returnsIf_retCond (s : State) (cc : Cond) :
    returnsIf (condHolds s cc) s.params.cyc.takenRet s (s.retCond cc) := by
  rw [← cond_eq_condHolds]
  exact returnsIf_ite _ _ s

/-- Settles O34: a conditional call or return is the unconditional one with cycles added, or nothing at all. -/
theorem conditionalCallsAndReturns : Obligations.ConditionalCallsAndReturns :=
  ⟨fun s cc w => ⟨encode_rowCall cc w, s.callCond cc w, exec_rowCall cc w s, callsIf_callCond s cc w⟩,
    fun s cc => ⟨encode_rowRet cc, s.retCond cc, exec_rowRet cc s, returnsIf_retCond s cc⟩⟩

end Sys2Proof.Machine
end

section
/-! PROOFS. 44_interrupt_halt_misc.md: what NOP, DI, EI, HALT and STOP do and what they leave, O35, O36 and O38. -/
namespace Sys2Proof.Machine

/-! ### NOP, DI and EI -/

/-- From `s` to `t` nothing but IME changes, and the bus is not accessed. -/
def leavesAllButIme (s t : State) : Prop :=
  keepsData s t ∧ t.sp = s.sp ∧ t.pc = s.pc ∧ t.addcyc = s.addcyc ∧ t.halted = s.halted ∧ t.haltbug = s.haltbug ∧
  t.params = s.params ∧ t.env = s.env ∧ t.freeCount = s.freeCount ∧ makesAccesses s t []

theorem leavesAllButIme_setIme (s : State) (v : Bool) : leavesAllButIme s (s.setIme v) :=
  ⟨keepsData_refl s, s.setIme_sp v, s.setIme_pc v, s.setIme_addcyc v, s.setIme_halted v, s.setIme_haltbug v,
    s.setIme_params v, s.setIme_env v, s.setIme_freeCount v, makesAccesses_none rfl⟩

theorem exec_di (s : State) : exec .di s = .next (s.setIme false) := rfl

theorem exec_ei (s : State) : exec .ei s = .next (s.setIme true) := rfl

/-- Settles O35: NOP answers the state it is given, DI and EI are one write of IME. -/
theorem nopDiEiEffects : Obligations.NopDiEiEffects := by
  refine ⟨rfl, rfl, rfl, fun s => ⟨s, rfl, rfl⟩, fun s i v hform => ?ime⟩
  case ime =>
    have hexec : exec i s = .next (s.setIme v) := by
      obtain ⟨rfl, rfl⟩ | ⟨rfl, rfl⟩ := hform
      · exact exec_di s
      · exact exec_ei s
    exact ⟨s.setIme v, hexec, s.setIme_ime v, leavesAllButIme_setIme s v⟩

/-! ### HALT -/

/-- With `HALTBUG_CONDITION` at its default HALT samples nothing (44_interrupt_halt_misc.md R251). -/
theorem State.halt_of_envOnly {s : State} (h : s.params.haltbugCondition = .envOnly) :
    s.halt = s.setHalted true := by
  rw [State.halt, h]

theorem exec_halt (s : State) : exec .halt s = .next s.halt := rfl

/-- From `s` to `t` nothing but HALTED changes, and the bus is not accessed. -/
def leavesAllButHalted (s t : State) : Prop :=
  t.haltbug = s.haltbug ∧ t.ime = s.ime ∧ keepsData s t ∧ t.sp = s.sp ∧ t.pc = s.pc ∧ t.addcyc = s.addcyc ∧
  t.params = s.params ∧ t.env = s.env ∧ t.freeCount = s.freeCount ∧ makesAccesses s t []

theorem leavesAllButHalted_setHalted (s : State) (v : Bool) : leavesAllButHalted s (s.setHalted v) :=
  ⟨s.setHalted_haltbug v, s.setHalted_ime v, keepsData_refl s, s.setHalted_sp v, s.setHalted_pc v,
    s.setHalted_addcyc v, s.setHalted_params v, s.setHalted_env v, s.setHalted_freeCount v, makesAccesses_none rfl⟩

/-- Settles O36: HALT is one write of HALTED, and a halted state's next step is a halt tick. -/
theorem haltSetsHalted : Obligations.HaltSetsHalted := by
  refine ⟨rfl, fun s henvOnly => ?halts⟩
  case halts =>
    have hexec : exec .halt s = .next (s.setHalted true) := by
      rw [exec_halt, State.halt_of_envOnly henvOnly]
    have hhalted : (s.setHalted true).halted = true := s.setHalted_halted true
    exact ⟨s.setHalted true, hexec, hhalted, instrStep_halted hhalted, leavesAllButHalted_setHalted s true⟩

/-! ### STOP -/

theorem exec_stop (v : Byte) (s : State) : exec (.stop v) s = s.stopBy := rfl

theorem State.stopBy_of_refuse {s : State} (h : s.params.stop = .refuse) : s.stopBy = .refused .stopRefused := by
  rw [State.stopBy, h]

theorem State.stopBy_of_nop2 {s : State} (h : s.params.stop = .nop2) : s.stopBy = .next s := by
  rw [State.stopBy, h]

theorem State.stopBy_of_invalid {s : State} (h : s.params.stop = .invalid) : s.stopBy = s.raiseInvalid 0x10 := by
  rw [State.stopBy, h]

/-- Only under `STOP_BEHAVIOUR = invalid` is STOP not followed by its ignored byte (log 15). -/
theorem State.fetchLen_stop (s : State) : s.fetchLen 0x10 = if s.params.stop = .invalid then 1 else 2 := by
  have hlen : instrLen 0x10 = 2 := by decide
  simp only [State.fetchLen, true_and, hlen]

/-- Settles O38: one case for each choice, the last one the trap of the invalid opcodes. -/
theorem stopFollowsParameter : Obligations.StopFollowsParameter := by
  intro s v
  rw [exec_stop, State.fetchLen_stop]
  refine ⟨fun hrefuse => State.stopBy_of_refuse hrefuse, fun hnop2 => ⟨?twoBytes, ?nothing⟩,
    fun hinvalid => ⟨if_pos hinvalid, fun hnop => ?record, fun hfault => ?fault⟩⟩
  case twoBytes => simp [hnop2]
  case nothing => exact ⟨s, State.stopBy_of_nop2 hnop2, rfl⟩
  case record =>
    exact ⟨_, (State.stopBy_of_invalid hinvalid).trans (State.raiseInvalid_of_nop hnop 0x10), rfl, rfl,
      makesAccesses_none rfl⟩
  case fault => exact (State.stopBy_of_invalid hinvalid).trans (State.raiseInvalid_of_fault hfault 0x10)

end Sys2Proof.Machine
end

section
/-! PROOFS. 45_load8.md: what an 8-bit load or store moves, what it leaves, and O40 to O43. -/
namespace Sys2Proof.Machine

/-! ### What a load or a store leaves -/

/-- From `s` to `t` only the registers in `written` and the bus change, the bus through the accesses `acc`. -/
def leavesCoreBut (written : List R8) (acc : List BusEvent) (s t : State) : Prop :=
  makesAccesses s t acc ∧ keepsRegsBut written s t ∧ t.f = s.f ∧ keepsFlow s t

theorem leavesCoreBut_trans {xs ys : List R8} {acc acc' : List BusEvent} {s t u : State}
    (hst : leavesCoreBut xs acc s t) (htu : leavesCoreBut ys acc' t u) :
    leavesCoreBut (xs ++ ys) (acc ++ acc') s u := by
  obtain ⟨hacc, hregs, hf, hflow⟩ := hst
  obtain ⟨kacc, kregs, kf, kflow⟩ := htu
  have hout : makesAccesses s u (acc ++ acc') := by
    rw [makesAccesses, kacc, hacc, List.append_assoc]
  exact ⟨hout, keepsRegsBut_trans hregs kregs, kf.trans hf, keepsFlow_trans hflow kflow⟩

theorem keepsFlow_refl (s : State) : keepsFlow s s := ⟨rfl, rfl, rfl, keepsControl_refl s⟩

theorem leavesCoreBut_memRead (s : State) (addr : Word) :
    leavesCoreBut [] [.read addr (s.peek addr)] s (s.memRead addr).2 :=
  ⟨rfl, keepsRegsBut_refl [] s, rfl, keepsFlow_refl s⟩

/-- A write of the bus changes no state of the core (20_memory.md R62). -/
theorem leavesCoreBut_memWrite (s : State) (addr : Word) (v : Byte) :
    leavesCoreBut [] [.write addr v] s (s.memWrite addr v) :=
  ⟨rfl, keepsRegsBut_refl [] s, rfl, keepsFlow_refl s⟩

theorem leavesCoreBut_getR8 (s : State) (r : R8) : leavesCoreBut [] (r8Reads s r) s (s.getR8 r).2 := by
  obtain ⟨hacc, hregs, -, hflow⟩ := leavesAllBut_getR8 s r
  exact ⟨hacc, hregs, s.getR8_snd_f r, hflow⟩

theorem leavesCoreBut_setR8 (s : State) (r : R8) (v : Byte) :
    leavesCoreBut [r] (r8Writes s r v) s (s.setR8 r v) :=
  ⟨s.setR8_bus r v, keepsRegsBut_setR8 s r v, s.setR8_f r v, keepsFlow_setR8 s r v⟩

theorem leavesCoreBut_setHl (s : State) (w : Word) : leavesCoreBut [.h, .l] [] s (s.setHl w) :=
  ⟨makesAccesses_none rfl, keepsRegsBut_setHl s w, s.setHl_f w, keepsFlow_setHl s w⟩

/-! ### LD r8,r8' and LD r8,d8 -/

/-- The formula gives 0x76 for the pair of memory operands too, which is HALT (45_load8.md R270). -/
theorem encode_rowLd (dst src : R8) : encode (rowLd dst src) = [opByte (0x40 + 8 * codeR8 dst + codeR8 src)] := by
  cases dst <;> cases src <;> rfl

theorem encode_rowLdImm8 (dst : R8) (v : Byte) : encode (rowLdImm8 dst v) = [opByte (0x06 + 8 * codeR8 dst), v] := by
  cases dst <;> rfl

theorem exec_rowLd {dst src : R8} (hne : (dst, src) ≠ (.memHl, .memHl)) (s : State) :
    exec (rowLd dst src) s = .next (s.ldR8 dst src) := by
  cases dst with
  | memHl =>
    cases src with
    | memHl => exact absurd rfl hne
    | _ => rfl
  | _ => cases src <;> rfl

theorem exec_rowLdImm8 (dst : R8) (v : Byte) (s : State) : exec (rowLdImm8 dst v) s = .next (s.setR8 dst v) := by
  cases dst <;> rfl

/-- Reading the source leaves HL, and so the address of a destination in memory (45_load8.md R270). -/
theorem r8Writes_getR8 (s : State) (dst src : R8) (v : Byte) : r8Writes (s.getR8 src).2 dst v = r8Writes s dst v := by
  cases src <;> rfl

/-- From `s` to `t` the operand `dst` is made `v` after the reads `acc`, and nothing else changes; of the bus this says
only what is read and written. -/
def movesByte (dst : R8) (v : Byte) (acc : List BusEvent) (s t : State) : Prop :=
  regHolds t v dst ∧ makesAccesses s t (acc ++ r8Writes s dst v) ∧ keepsRegsBut [dst] s t ∧ t.f = s.f ∧
  (dst ≠ .memHl → keepsBus s t) ∧ keepsFlow s t

theorem keepsBus_setR8 (s : State) {r : R8} (hr : r ≠ .memHl) (v : Byte) : keepsBus s (s.setR8 r v) :=
  keepsBus_of_busState ((s.setR8_busState r v).trans (if_neg hr))

theorem movesByte_setR8 (s : State) (dst : R8) (v : Byte) : movesByte dst v [] s (s.setR8 dst v) := by
  obtain ⟨hacc, hregs, hf, hflow⟩ := leavesCoreBut_setR8 s dst v
  exact ⟨regHolds_setR8 s dst v, hacc, hregs, hf, fun hdst => keepsBus_setR8 s hdst v, hflow⟩

theorem movesByte_ldR8 (s : State) (dst src : R8) :
    movesByte dst (r8Value s src) (r8Reads s src) s (s.ldR8 dst src) := by
  have hcore : leavesCoreBut [dst] _ s (s.ldR8 dst src) :=
    leavesCoreBut_trans (leavesCoreBut_getR8 s src) (leavesCoreBut_setR8 _ dst _)
  rw [r8Writes_getR8] at hcore
  obtain ⟨hacc, hregs, hf, hflow⟩ := hcore
  have hbus (hdst : dst ≠ .memHl) : (s.ldR8 dst src).busState = s.busState :=
    (keepsBus_setR8 _ hdst _).1.trans (s.getR8_snd_busState src)
  rw [← getR8_fst]
  exact ⟨regHolds_setR8 _ dst _, hacc, hregs, hf, fun hdst => keepsBus_of_busState (hbus hdst), hflow⟩

/-- Settles O40: a move is one write of its destination, after the read of the source if it has one. -/
theorem loadsMoveOneByte : Obligations.LoadsMoveOneByte := by
  refine ⟨fun dst src _ => encode_rowLd dst src, encode_rowLdImm8, fun s dst i v acc hform => ?row⟩
  case row =>
    obtain ⟨src, hne, rfl, rfl, rfl⟩ | ⟨rfl, rfl⟩ := hform
    · exact ⟨s.ldR8 dst src, exec_rowLd hne s, movesByte_ldR8 s dst src⟩
    · exact ⟨s.setR8 dst v, exec_rowLdImm8 dst v s, movesByte_setR8 s dst v⟩

/-! ### The accumulator loads and stores -/

theorem highAddr_eq_ofNat (n : Byte) : highAddr n = BitVec.ofNat 16 (0xFF00 + n.toNat) := by
  rw [BitVec.ofNat_add, BitVec.ofNat_toNat]
  rfl

theorem State.ldA_a (s : State) (addr : Word) : (s.ldA addr).a = s.peek addr := rfl

theorem State.ldA_busState (s : State) (addr : Word) : (s.ldA addr).busState = s.busState := rfl

theorem leavesCoreBut_ldA (s : State) (addr : Word) :
    leavesCoreBut [.a] [.read addr (s.peek addr)] s (s.ldA addr) :=
  leavesCoreBut_trans (leavesCoreBut_memRead s addr) (leavesCoreBut_setR8 _ .a _)

theorem leavesCoreBut_stA (s : State) (addr : Word) : leavesCoreBut [] [.write addr s.a] s (s.stA addr) :=
  leavesCoreBut_memWrite s addr s.a

/-- Settles O41: each form is `ldA` at its own address. -/
theorem accumulatorLoadsReadOneByte : Obligations.AccumulatorLoadsReadOneByte := by
  refine ⟨rfl, rfl, rfl, fun _ => rfl, fun _ => rfl, fun s i addr hform => ?row⟩
  case row =>
    have hexec : exec i s = .next (s.ldA addr) := by
      simp only [← highAddr_eq_ofNat] at hform
      obtain ⟨rfl, rfl⟩ | ⟨rfl, rfl⟩ | rfl | ⟨n, rfl, rfl⟩ | ⟨rfl, rfl⟩ := hform <;> rfl
    obtain ⟨hacc, hregs, hf, hflow⟩ := leavesCoreBut_ldA s addr
    exact ⟨s.ldA addr, hexec, s.ldA_a addr, hacc, hregs, hf, keepsBus_of_busState (s.ldA_busState addr), hflow⟩

/-- Settles O42: each form is `stA` at its own address. -/
theorem accumulatorStoresWriteOneByte : Obligations.AccumulatorStoresWriteOneByte := by
  refine ⟨rfl, rfl, rfl, fun _ => rfl, fun _ => rfl, fun s i addr hform => ?row⟩
  case row =>
    have hexec : exec i s = .next (s.stA addr) := by
      simp only [← highAddr_eq_ofNat] at hform
      obtain ⟨rfl, rfl⟩ | ⟨rfl, rfl⟩ | rfl | ⟨n, rfl, rfl⟩ | ⟨rfl, rfl⟩ := hform <;> rfl
    exact ⟨s.stA addr, hexec, leavesCoreBut_stA s addr⟩

/-! ### The moves through HL that step it -/

/-- HL steps by `n` modulo 2^16, and so by -1 where `n` is 65535 (45_load8.md R278 to R281). -/
theorem add_ofNat16_toNat (w : Word) (n : Nat) : (w + BitVec.ofNat 16 n).toNat = (w.toNat + n) % 65536 := by
  rw [BitVec.toNat_add, BitVec.toNat_ofNat, Nat.add_mod_mod]

/-- The access leaves HL, so the step is from the old HL. -/
theorem State.stAHlStep_hl (s : State) (step : Word) : (s.stAHlStep step).hl = s.hl + step := hl_setHl _ _

theorem State.ldAHlStep_hl (s : State) (step : Word) : (s.ldAHlStep step).hl = s.hl + step := hl_setHl _ _

theorem State.ldAHlStep_a (s : State) (step : Word) : (s.ldAHlStep step).a = s.peek s.hl := rfl

theorem State.ldAHlStep_busState (s : State) (step : Word) : (s.ldAHlStep step).busState = s.busState := rfl

theorem leavesCoreBut_stAHlStep (s : State) (step : Word) :
    leavesCoreBut [.h, .l] [.write s.hl s.a] s (s.stAHlStep step) :=
  leavesCoreBut_trans (leavesCoreBut_stA s s.hl) (leavesCoreBut_setHl _ _)

theorem leavesCoreBut_ldAHlStep (s : State) (step : Word) :
    leavesCoreBut [.a, .h, .l] [.read s.hl (s.peek s.hl)] s (s.ldAHlStep step) :=
  leavesCoreBut_trans (leavesCoreBut_ldA s s.hl) (leavesCoreBut_setHl _ _)

/-- Settles O43: the access of `stA` or `ldA` at HL, then the step of HL, where -1 is 65535 modulo 2^16. -/
theorem hlStepsAfterAccess : Obligations.HlStepsAfterAccess := by
  refine ⟨rfl, rfl, rfl, rfl, fun s i delta hform => ?store, fun s i delta hform => ?load⟩
  case store =>
    have hexec : exec i s = .next (s.stAHlStep (BitVec.ofNat 16 delta)) := by
      obtain ⟨rfl, rfl⟩ | ⟨rfl, rfl⟩ := hform <;> rfl
    obtain ⟨hacc, hframe⟩ := leavesCoreBut_stAHlStep s (BitVec.ofNat 16 delta)
    exact ⟨_, hexec, hacc, by rw [State.stAHlStep_hl, add_ofNat16_toNat], hframe⟩
  case load =>
    have hexec : exec i s = .next (s.ldAHlStep (BitVec.ofNat 16 delta)) := by
      obtain ⟨rfl, rfl⟩ | ⟨rfl, rfl⟩ := hform <;> rfl
    obtain ⟨hacc, hregs, hf, hflow⟩ := leavesCoreBut_ldAHlStep s (BitVec.ofNat 16 delta)
    exact ⟨_, hexec, s.ldAHlStep_a _, hacc, by rw [State.ldAHlStep_hl, add_ofNat16_toNat], hregs, hf,
      keepsBus_of_busState (s.ldAHlStep_busState _), hflow⟩

end Sys2Proof.Machine
end

section
/-! PROOFS. 46_load16_stack.md: what the 16-bit loads, PUSH and POP move, and what they leave, O44 to O47. -/
namespace Sys2Proof.Machine

/-! ### LD rr,d16 and LD SP,HL -/

theorem encode_rowLdImm16 (p : Rp) (w : Word) :
    encode (rowLdImm16 p w) = [opByte (0x01 + 16 * codeRp p), lo8 w, hi8 w] := by cases p <;> rfl

theorem exec_rowLdImm16 (p : Rp) (w : Word) (s : State) : exec (rowLdImm16 p w) s = .next (s.setRp p w) := by
  cases p <;> rfl

/-- Settles O44: each is one write of a pair, LD SP,HL that of SP. -/
theorem wordLoadsSetPair : Obligations.WordLoadsSetPair := by
  refine ⟨fun s p w => ?imm, fun s => ?spHl⟩
  case imm =>
    exact ⟨encode_rowLdImm16 p w, s.setRp p w, exec_rowLdImm16 p w s, getRp_setRp s p w, leavesAllButRp_setRp s p w⟩
  case spHl =>
    exact ⟨rfl, s.setSp s.hl, rfl, rfl, keepsData_refl s, rfl, rfl, keepsControl_refl s, makesAccesses_none rfl⟩

/-! ### LD (a16),SP -/

/-- A word is written low byte first, and nothing but the bus changes (20_memory.md R66). -/
theorem leavesCoreBut_memWrite16 (s : State) (addr w : Word) :
    leavesCoreBut [] [.write addr (lo8 w), .write (addr + 1) (hi8 w)] s (s.memWrite16 addr w) :=
  leavesCoreBut_trans (leavesCoreBut_memWrite s addr (lo8 w)) (leavesCoreBut_memWrite _ (addr + 1) (hi8 w))

/-- Settles O45: one 16-bit write of SP. -/
theorem storeSpWritesLowByteFirst : Obligations.StoreSpWritesLowByteFirst := fun s w =>
  ⟨rfl, s.memWrite16 w s.sp, rfl, leavesCoreBut_memWrite16 s w s.sp⟩

/-! ### PUSH -/

theorem encode_rowPush (p : Rp2) : encode (rowPush p) = [opByte (0xC5 + 16 * codeRp2 p)] := by cases p <;> rfl

theorem exec_rowPush (p : Rp2) (s : State) : exec (rowPush p) s = .next (s.push p) := by cases p <;> rfl

/-- The halves of AF are A and F as it reads, without its low four bits (10_state.md R29). -/
theorem halves_af (s : State) : hi8 s.af = s.a ∧ lo8 s.af = s.f &&& 0xF0 := ⟨hi8_mk16 _ _, lo8_mk16 _ _⟩

/-- Settles O46: one push of the pair as it reads. -/
theorem pushWritesHighByteFirst : Obligations.PushWritesHighByteFirst := by
  refine fun s p => ⟨encode_rowPush p, s.push p, exec_rowPush p s, s.push16_sp _, s.push16_bus _, ?af,
    keepsRegsBut_push16 s _, s.push16_f _, s.push16_pc _, s.push16_addcyc _, keepsControl_push16 s _⟩
  case af =>
    rintro rfl
    exact halves_af s

/-! ### POP -/

theorem encode_rowPop (p : Rp2) : encode (rowPop p) = [opByte (0xC1 + 16 * codeRp2 p)] := by cases p <;> rfl

theorem exec_rowPop (p : Rp2) (s : State) : exec (rowPop p) s = .next (s.pop p) := by cases p <;> rfl

theorem setRp2_f_of_ne (s : State) {p : Rp2} (hp : p ≠ .af) (w : Word) : (s.setRp2 p w).f = s.f := by
  cases p with
  | af => exact absurd rfl hp
  | _ => rfl

theorem keepsRegsBut_setRp2 (s : State) (p : Rp2) (w : Word) : keepsRegsBut (rp2Regs p) s (s.setRp2 p w) := by
  cases p with
  | bc => exact keepsRegsBut_setBc s w
  | de => exact keepsRegsBut_setDe s w
  | hl => exact keepsRegsBut_setHl s w
  | af => exact keepsRegsBut_setAf s w

/-- The mask of F keeps the bits of the four flags (10_state.md R28). -/
theorem flagsAre_setF (s : State) (v : Byte) :
    flagsAre (s.setF v) (v.getLsbD 7) (v.getLsbD 6) (v.getLsbD 5) (v.getLsbD 4) := by
  simp [flagsAre, State.flagZ, State.flagN, State.flagH, State.flagC]

/-- A pair other than AF is popped whole, and F stays. -/
theorem pop_of_ne_af (s : State) {p : Rp2} (hp : p ≠ .af) :
    ((s.pop p).getRp2 p).toNat = (s.peek (s.sp + 1)).toNat * 256 + (s.peek s.sp).toNat ∧ (s.pop p).f = s.f := by
  constructor
  · rw [State.pop, getRp2_setRp2, if_neg hp, State.pop16_toNat]
  · rw [State.pop, setRp2_f_of_ne _ hp, State.pop16_snd_f]

/-- POP AF writes A and F from the two halves of the word (46_load16_stack.md R318). -/
theorem State.pop_af (s : State) : s.pop .af = (s.pop16.2.setA (s.peek (s.sp + 1))).setF (s.peek s.sp) := by
  rw [State.pop, State.pop16_fst, State.setRp2, State.setAf, hi8_mk16, lo8_mk16]

theorem keepsRegsBut_pop (s : State) (p : Rp2) : keepsRegsBut (rp2Regs p) s (s.pop p) :=
  keepsRegsBut_trans (keepsRegsBut_pop16 s) (keepsRegsBut_setRp2 _ p _)

theorem State.pop_sp (s : State) (p : Rp2) : (s.pop p).sp = s.sp + 2 := by
  rw [State.pop, State.setRp2_sp, State.pop16_snd_sp]

theorem State.pop_pc (s : State) (p : Rp2) : (s.pop p).pc = s.pc := by
  rw [State.pop, State.setRp2_pc, State.pop16_snd_pc]

theorem State.pop_addcyc (s : State) (p : Rp2) : (s.pop p).addcyc = s.addcyc := by
  rw [State.pop, State.setRp2_addcyc, State.pop16_snd_addcyc]

theorem makesAccesses_pop (s : State) (p : Rp2) : makesAccesses s (s.pop p) (wordPops s) := by
  rw [makesAccesses, State.pop, State.setRp2_out]
  exact s.pop16_bus

theorem keepsBus_pop (s : State) (p : Rp2) : keepsBus s (s.pop p) :=
  keepsBus_of_busState ((State.setRp2_busState _ p _).trans s.pop16_snd_busState)

theorem keepsControl_pop (s : State) (p : Rp2) : keepsControl s (s.pop p) := by simp [State.pop, keepsControl]

/-- Settles O47: one pop, whose word is written to the pair. -/
theorem popReadsLowByteFirst : Obligations.PopReadsLowByteFirst := by
  refine fun s p => ⟨encode_rowPop p, s.pop p, exec_rowPop p s, pop_of_ne_af s, ?af, s.pop_sp p, makesAccesses_pop s p,
    keepsRegsBut_pop s p, keepsBus_pop s p, s.pop_pc p, s.pop_addcyc p, keepsControl_pop s p⟩
  case af =>
    rintro rfl
    rw [State.pop_af]
    exact ⟨rfl, rfl, flagsAre_setF _ _⟩

end Sys2Proof.Machine
end

section
/-! PROOFS. 60_exceptions.md: the priority of the sources, interrupt entry, the interrupt check, and O49 to O51. -/
namespace Sys2Proof.Machine

/-! ### Interrupt priority -/

theorem intBit_lt_five (src : Source) : intBit src < 5 := by cases src <;> decide

theorem intVec_eq_ofNat (src : Source) : intVec src = BitVec.ofNat 16 (0x0040 + 8 * intBit src) := by cases src <;> rfl

theorem oneBit_intBit (src : Source) : 1#8 <<< intBit src = BitVec.ofNat 8 (2 ^ intBit src) := by cases src <;> rfl

theorem highest_oneBit (src : Source) : highest (BitVec.ofNat 8 (2 ^ intBit src)) = some src := by cases src <;> rfl

/-- No two sources share a bit: `Highest` gives the source back from its bit. -/
theorem intBit_injective : Function.Injective intBit := fun src src' h =>
  Option.some.inj (by rw [← highest_oneBit src, h, highest_oneBit src'])

/-- `Highest` gives no source exactly where none of bits 4..0 is set (60_exceptions.md R357). -/
theorem highest_eq_none_iff_bits (m : Byte) : highest m = none ↔ ∀ j < 5, m.getLsbD j = false := by
  constructor
  · intro hnone j hj
    unfold highest at hnone
    split_ifs at hnone
    interval_cases j <;> exact Bool.eq_false_iff.2 ‹_›
  · intro hbits
    simp only [highest, hbits, Nat.reduceLT, Bool.false_eq_true, if_false]

/-- The mask 0x1F keeps bits 4..0. -/
theorem and_1F_eq_zero_iff_bits (m : Byte) : m &&& 0x1F = 0 ↔ ∀ j < 5, m.getLsbD j = false := by
  have hmask : ∀ j < 8, (0x1F : Byte).getLsbD j = decide (j < 5) := by decide
  constructor
  · intro hzero j hj
    have hbit : (m &&& 0x1F).getLsbD j = false := by rw [hzero]; exact BitVec.getLsbD_zero
    rwa [BitVec.getLsbD_and, hmask j (by omega), decide_eq_true hj, Bool.and_true] at hbit
  · intro hbits
    refine BitVec.eq_of_getLsbD_eq fun j hj => ?_
    rw [BitVec.getLsbD_and, hmask j hj]
    by_cases h5 : j < 5
    · simp [hbits j h5]
    · simp [h5]

theorem highest_eq_none_iff (m : Byte) : highest m = none ↔ m &&& 0x1F = 0 :=
  (highest_eq_none_iff_bits m).trans (and_1F_eq_zero_iff_bits m).symm

/-- The least set bit is one source's only, and `Highest` gives that source (60_exceptions.md R357). -/
theorem highest_eq_some_iff (m : Byte) (src : Source) :
    highest m = some src ↔ m.getLsbD (intBit src) = true ∧ ∀ j < intBit src, m.getLsbD j = false := by
  refine ⟨highest_eq_some, fun ⟨hset, hlow⟩ => ?_⟩
  cases hm : highest m with
  | none =>
    have hclear := (highest_eq_none_iff_bits m).1 hm _ (intBit_lt_five src)
    exact absurd (hset.symm.trans hclear) (by decide)
  | some found =>
    obtain ⟨fset, flow⟩ := highest_eq_some hm
    have hle : intBit found ≤ intBit src := not_lt.1 fun h => by simp [flow _ h] at hset
    have hge : intBit src ≤ intBit found := not_lt.1 fun h => by simp [hlow _ h] at fset
    rw [intBit_injective (le_antisymm hle hge)]

/-- Settles O51: the source found is the least set bit of the five, and each vector is read off its source. -/
theorem lowestBitHasPriority : Obligations.LowestBitHasPriority :=
  ⟨highest_eq_some_iff, highest_eq_none_iff, intVec_eq_ofNat, rfl, rfl, rfl, rfl, rfl⟩

/-! ### Interrupt entry -/

/-- IF with the serviced bit cleared, in the value `f` that the check read (60_exceptions.md R360). -/
def servicedIf (src : Source) (f : Byte) : Byte := f &&& ~~~(BitVec.ofNat 8 (2 ^ intBit src))

/-- Entry is a push of PC and one write of IF, on a running core with IME cleared (60_exceptions.md R360). -/
theorem State.dispatch_eq (s : State) (src : Source) (f : Byte) :
    s.dispatch src f =
      ((((s.setHalted false).setIme false).push16 s.pc).memWrite ifAddr (servicedIf src f)).setPc (intVec src) := by
  rw [servicedIf, ← oneBit_intBit]; rfl

theorem makesAccesses_dispatch (s : State) (src : Source) (f : Byte) :
    makesAccesses s (s.dispatch src f) (pcPushes s ++ [.write ifAddr (servicedIf src f)]) := by
  rw [makesAccesses, State.dispatch_eq, State.setPc_out, State.memWrite_bus, State.push16_bus, List.append_assoc]
  rfl

theorem State.dispatch_busWrites (s : State) (src : Source) (f : Byte) :
    (s.dispatch src f).busState =
      busWrites s.busState [(s.sp - 1, hi8 s.pc), (s.sp - 2, lo8 s.pc), (ifAddr, servicedIf src f)] := by
  rw [State.dispatch_busState, oneBit_intBit]; rfl

theorem keepsRegsBut_dispatch (s : State) (src : Source) (f : Byte) : keepsRegsBut [] s (s.dispatch src f) := by
  simp [keepsRegsBut]

/-- Settles O50: field by field, the accesses and the bus from the push and the write of IF that entry is. -/
theorem dispatchEntersHandler : Obligations.DispatchEntersHandler := fun s src f =>
  ⟨s.dispatch_halted src f, s.dispatch_ime src f, s.dispatch_sp src f, s.dispatch_pc src f,
    makesAccesses_dispatch s src f, s.dispatch_busWrites src f, keepsRegsBut_dispatch s src f, s.dispatch_f src f,
    s.dispatch_haltbug src f, s.dispatch_addcyc src f, s.dispatch_params src f, s.dispatch_env src f,
    s.dispatch_freeCount src f⟩

/-! ### The interrupt check -/

theorem makesAccesses_readPending (s : State) :
    makesAccesses s s.readPending [.read ifAddr (s.peek ifAddr), .read ieAddr (s.peek ieAddr)] := by
  rw [makesAccesses, State.readPending, State.memRead_bus, State.memRead_bus, List.append_assoc]
  rfl

theorem sameButOut_refl (s : State) : s.sameButOut s := rfl

theorem sameButOut_readPending (s : State) : s.sameButOut s.readPending := rfl

/-- The pending mask is masked already, so it is zero exactly where `Highest` finds no source. -/
theorem highest_pendingMask_eq_none_iff (s : State) : highest s.pendingMask = none ↔ s.pendingMask = 0 := by
  rw [highest_eq_none_iff, State.pendingMask, BitVec.and_assoc _ 0x1F 0x1F, BitVec.and_self]

/-- With IME = 1 the check reads IF and IE and dispatches the source found, if there is one (60_exceptions.md R359). -/
theorem State.interruptCheck_enabled {s : State} (hime : s.ime = true) :
    (s.pendingMask = 0 → s.interruptCheck = (0, s.readPending)) ∧
    (s.pendingMask ≠ 0 → ∃ src, highest s.pendingMask = some src ∧
      s.interruptCheck = (s.params.intDispatchCycles, s.readPending.dispatch src (s.peek ifAddr))) := by
  rw [← highest_pendingMask_eq_none_iff, ne_eq, ← highest_pendingMask_eq_none_iff]
  obtain ⟨-, hnone, hcheck⟩ | ⟨src, -, hsome, hcheck⟩ | ⟨hoff, -⟩ | ⟨hoff, -⟩ | ⟨hoff, -⟩ := s.interruptCheck_cases
  · exact ⟨fun _ => hcheck, fun h => absurd hnone h⟩
  · exact ⟨fun h => (by simp [h] at hsome), fun _ => ⟨src, hsome, hcheck⟩⟩
  all_goals exact absurd (hime.symm.trans hoff) (by decide)

/-- With IME = 0 and `HALT_WAKE_WITHOUT_IME` at its default the check does nothing (60_exceptions.md R359). -/
theorem State.interruptCheck_disabled {s : State} (hime : s.ime = false) (hwake : s.params.haltWakeWithoutIme = false) :
    s.interruptCheck = (0, s) := by
  simp [State.interruptCheck, hime, hwake]

/-- With IME = 0 and `HALT_WAKE_WITHOUT_IME` a halted core with a pending and enabled source runs again, and nothing
else of the state changes (92_eei_decisions.md D13). -/
theorem State.interruptCheck_wake {s : State} (hime : s.ime = false) (hwake : s.params.haltWakeWithoutIme = true) :
    s.interruptCheck.1 = 0 ∧
    (s.halted = true → s.pendingMask ≠ 0 → (s.setHalted false).sameButOut s.interruptCheck.2) ∧
    (s.halted = false ∨ s.pendingMask = 0 → s.sameButOut s.interruptCheck.2) := by
  obtain ⟨hon, -⟩ | ⟨_, hon, -⟩ | ⟨-, -, hhalt, hm, hcheck⟩ | ⟨-, -, hhalt, hm, hcheck⟩ | ⟨-, hrun, hcheck⟩ :=
    s.interruptCheck_cases
  iterate 2 exact absurd (hime.symm.trans hon) (by decide)
  all_goals rw [hcheck]
  · exact ⟨rfl, fun _ h => absurd hm h, fun _ => sameButOut_readPending s⟩
  · exact ⟨rfl, fun _ _ => rfl, fun h => absurd h (not_or.2 ⟨by simp [hhalt], hm⟩)⟩
  · exact ⟨rfl, fun hhalt => (by simp [hwake, hhalt] at hrun), fun _ => sameButOut_refl s⟩

/-- Settles O49: one clause per value of IME and, with IME = 0, of `HALT_WAKE_WITHOUT_IME`. -/
theorem interruptCheckDispatchesHighest : Obligations.InterruptCheckDispatchesHighest :=
  ⟨fun _ hime hwake => State.interruptCheck_disabled hime hwake,
    fun s hime => ⟨makesAccesses_readPending s, sameButOut_readPending s, State.interruptCheck_enabled hime⟩,
    fun _ hime hwake => State.interruptCheck_wake hime hwake⟩

end Sys2Proof.Machine
end

section
/-! PROOFS. 30_encoding.md: the encoder and the decoder are inverse to each other, and O1 to O4. -/
namespace Sys2Proof.Machine

/-! ### The encoding of a decoded instruction -/

/-- A word operand is encoded as the two bytes it was decoded from (20_memory.md R64). -/
theorem operandBytes_mk16 (op b1 b2 : Byte) : [op, lo8 (mk16 b2 b1), hi8 (mk16 b2 b1)] = [op, b1, b2] := by
  rw [lo8_mk16, hi8_mk16]

theorem encode_decodeX0 (y z : Octal) (b1 b2 : Byte) :
    encode (decodeX0 y z b1 b2) = [opByte (64 * 0 + 8 * y.toNat + z.toNat), b1, b2].take (lenX0 y z) := by
  cases z with
  | n0 =>
    cases y with
    | n1 => exact operandBytes_mk16 _ b1 b2
    | _ => rfl
  | n1 =>
    cases y with
    | n0 | n2 | n4 | n6 => exact operandBytes_mk16 _ b1 b2
    | _ => rfl
  | _ => cases y <;> rfl

theorem encode_decodeX3 (y z : Octal) (b1 b2 : Byte) :
    encode (decodeX3 y z b1 b2) = [opByte (64 * 3 + 8 * y.toNat + z.toNat), b1, b2].take (lenX3 y z) := by
  cases z with
  | n2 =>
    cases y with
    | n4 | n6 => rfl
    | _ => exact operandBytes_mk16 _ b1 b2
  | n3 =>
    cases y with
    | n0 => exact operandBytes_mk16 _ b1 b2
    | n1 => exact encode_decodeSecondary b1
    | _ => rfl
  | n4 =>
    cases y with
    | n0 | n1 | n2 | n3 => exact operandBytes_mk16 _ b1 b2
    | _ => rfl
  | n5 =>
    cases y with
    | n1 => exact operandBytes_mk16 _ b1 b2
    | _ => rfl
  | _ => cases y <;> rfl

theorem encode_rowLd_ofCode (y z : Octal) :
    encode (rowLd (R8.ofCode y) (R8.ofCode z)) = [opByte (64 * 1 + 8 * y.toNat + z.toNat)] := by
  rw [encode_rowLd, codeR8_ofCode, codeR8_ofCode]

theorem codeAlu_ofCode (y : Octal) : codeAlu (Alu.ofCode y) = y.toNat := by cases y <;> rfl

theorem encode_rowAlu_ofCode (y z : Octal) :
    encode (rowAlu (Alu.ofCode y) (R8.ofCode z)) = [opByte (64 * 2 + 8 * y.toNat + z.toNat)] := by
  rw [encode_rowAlu, codeAlu_ofCode, codeR8_ofCode]

/-- The encoding of a decoded instruction is as many of the bytes as the first of them asks for (30_encoding.md R104,
R105). -/
theorem encode_decodeInstr (op b1 b2 : Byte) : encode (decodeInstr op b1 b2) = [op, b1, b2].take (instrLen op) := by
  have hfields := opByte_fields op
  have hx := fieldX_lt op
  unfold decodeInstr instrLen
  interval_cases fieldX op
  · simp only [encode_decodeX0, hfields]
  · simp only [encode_rowLd_ofCode, hfields]; rfl
  · simp only [encode_rowAlu_ofCode, hfields]; rfl
  · simp only [encode_decodeX3, hfields]

theorem lenX0_bounds (y z : Octal) : 1 ≤ lenX0 y z ∧ lenX0 y z ≤ 3 := by cases z <;> cases y <;> decide

theorem lenX3_bounds (y z : Octal) : 1 ≤ lenX3 y z ∧ lenX3 y z ≤ 3 := by cases z <;> cases y <;> decide

/-- An instruction takes one, two or three bytes (30_encoding.md R105). -/
theorem instrLen_bounds (op : Byte) : 1 ≤ instrLen op ∧ instrLen op ≤ 3 := by
  have hx := fieldX_lt op
  unfold instrLen
  interval_cases fieldX op
  · exact lenX0_bounds _ _
  · exact (by decide : 1 ≤ 1 ∧ 1 ≤ 3)
  · exact (by decide : 1 ≤ 1 ∧ 1 ≤ 3)
  · exact lenX3_bounds _ _

/-- Settles O3: quadrant by quadrant of the opcode table. -/
theorem encodeOfDecodeIsIdentity : Obligations.EncodeOfDecodeIsIdentity := fun op b1 b2 =>
  ⟨encode_decodeInstr op b1 b2, instrLen_bounds op⟩

/-! ### The decoding of an encoded instruction -/

/-- The instruction that the bytes are, read with 0 for every byte that is missing. -/
def instrOfBytes : List Byte → Instr
  | [] => decodeInstr 0 0 0
  | [op] => decodeInstr op 0 0
  | [op, b1] => decodeInstr op b1 0
  | op :: b1 :: b2 :: _ => decodeInstr op b1 b2

/-- Shape by shape, the decoder finds every complete instruction from its encoding. -/
theorem instrOfBytes_encode_cases : ExecCases fun i _ _ => i.wf = true → instrOfBytes (encode i) = i where
  alu op r _ _ := by cases op <;> cases r <;> rfl
  aluImm op v _ _ := by cases op <;> rfl
  inc8 r _ _ := by cases r <;> rfl
  dec8 r _ _ := by cases r <;> rfl
  daa _ _ := rfl
  cpl _ _ := rfl
  scf _ _ := rfl
  ccf _ _ := rfl
  addHl p _ _ := by cases p <;> rfl
  inc16 p _ _ := by cases p <;> rfl
  dec16 p _ _ := by cases p <;> rfl
  addSp _ _ _ := rfl
  rlca _ _ := rfl
  rrca _ _ := rfl
  rla _ _ := rfl
  rra _ _ := rfl
  prefixed _ h := by cases h
  rot k r _ _ := by cases k <;> cases r <;> rfl
  bit b r _ _ := by cases b <;> cases r <;> rfl
  res b r _ _ := by cases b <;> cases r <;> rfl
  setb b r _ _ := by cases b <;> cases r <;> rfl
  jp w _ _ := congrArg Instr.jpA16 (mk16_hi8_lo8 w)
  jpCond cc w _ _ := by
    have hrow : instrOfBytes (encode (rowJp cc w)) = rowJp cc (mk16 (hi8 w) (lo8 w)) := by cases cc <;> rfl
    rw [hrow, mk16_hi8_lo8]
  jpHl _ _ := rfl
  jr _ _ _ := rfl
  jrCond cc _ _ _ := by cases cc <;> rfl
  call w _ _ := congrArg Instr.callA16 (mk16_hi8_lo8 w)
  callCond cc w _ _ := by
    have hrow : instrOfBytes (encode (rowCall cc w)) = rowCall cc (mk16 (hi8 w) (lo8 w)) := by cases cc <;> rfl
    rw [hrow, mk16_hi8_lo8]
  ret _ _ := rfl
  retCond cc _ _ := by cases cc <;> rfl
  reti _ _ := rfl
  rst t _ _ := by cases t <;> rfl
  ld dst r _ _ _ := by cases dst <;> cases r <;> rfl
  ldImm8 dst _ _ _ := by cases dst <;> rfl
  ldABc _ _ := rfl
  ldADe _ _ := rfl
  stABc _ _ := rfl
  stADe _ _ := rfl
  ldAAbs w _ _ := congrArg Instr.ldAMemA16 (mk16_hi8_lo8 w)
  stAAbs w _ _ := congrArg Instr.ldMemA16A (mk16_hi8_lo8 w)
  stAHlInc _ _ := rfl
  ldAHlInc _ _ := rfl
  stAHlDec _ _ := rfl
  ldAHlDec _ _ := rfl
  stAHigh _ _ _ := rfl
  ldAHigh _ _ _ := rfl
  stAC _ _ := rfl
  ldAC _ _ := rfl
  ldImm16 p w _ _ := by
    have hrow : instrOfBytes (encode (rowLdImm16 p w)) = rowLdImm16 p (mk16 (hi8 w) (lo8 w)) := by cases p <;> rfl
    rw [hrow, mk16_hi8_lo8]
  stSp w _ _ := congrArg Instr.ldMemA16Sp (mk16_hi8_lo8 w)
  ldSpHl _ _ := rfl
  ldHlSp _ _ _ := rfl
  push p _ _ := by cases p <;> rfl
  pop p _ _ := by cases p <;> rfl
  nop _ _ := rfl
  halt _ _ := rfl
  di _ _ := rfl
  ei _ _ := rfl
  stop _ _ _ := rfl
  invalid x hx _ _ := by fin_cases hx <;> rfl

/-- The encoder loses nothing of a complete instruction. -/
theorem instrOfBytes_encode {i : Instr} (hwf : i.wf = true) : instrOfBytes (encode i) = i :=
  exec_cases instrOfBytes_encode_cases i State.reset hwf

/-- Every complete instruction is what the decoder makes of some bytes. -/
theorem exists_decodeInstr_eq {i : Instr} (hwf : i.wf = true) : ∃ op b1 b2, decodeInstr op b1 b2 = i := by
  have hdec := instrOfBytes_encode hwf
  unfold instrOfBytes at hdec
  split at hdec <;> exact ⟨_, _, _, hdec⟩

theorem wf_of_ne_prefixCb {i : Instr} (hne : i ≠ .prefixCb) : i.wf = true := by
  unfold Instr.wf
  split
  · exact absurd rfl hne
  · rfl

theorem encode_prefixCb : encode .prefixCb = [0xCB] := rfl

/-- The decoder gives complete instructions only: the one byte of the prefix entry is too short for its opcode
(30_encoding.md R91). -/
theorem decodeInstr_wf (op b1 b2 : Byte) : (decodeInstr op b1 b2).wf = true := by
  refine wf_of_ne_prefixCb fun hprefix => ?_
  have hhead := encode_decodeInstr_head op b1 b2
  have henc := encode_decodeInstr op b1 b2
  rw [hprefix, encode_prefixCb] at hhead henc
  obtain rfl : 0xCB = op := Option.some.inj hhead
  rw [show instrLen 0xCB = 2 by decide] at henc
  simp at henc

/-- What lies beyond the length of the instruction is not looked at (30_encoding.md R105). -/
theorem instrOfBytes_take (op b1 b2 : Byte) :
    instrOfBytes ([op, b1, b2].take (instrLen op)) = decodeInstr op b1 b2 := by
  rw [← encode_decodeInstr, instrOfBytes_encode (decodeInstr_wf op b1 b2)]

/-- The decoder takes the bytes of the instruction and leaves the rest. -/
theorem decode_take_append (op b1 b2 : Byte) (rest : List Byte) :
    decode ([op, b1, b2].take (instrLen op) ++ rest) = .ok (decodeInstr op b1 b2) rest := by
  rw [← instrOfBytes_take]
  obtain ⟨hlow, hhigh⟩ := instrLen_bounds op
  unfold decode
  interval_cases hlen : instrLen op <;> simp [hlen, instrOfBytes]

/-- Settles O2: the instruction is what the decoder makes of some bytes, and its encoding is those it takes. -/
theorem decodeOfEncodeIsIdentity : Obligations.DecodeOfEncodeIsIdentity := by
  intro i rest hwf
  obtain ⟨op, b1, b2, rfl⟩ := exists_decodeInstr_eq hwf
  rw [encode_decodeInstr, decode_take_append]

/-- A stream that is long enough is the bytes of its first instruction and the rest. -/
theorem cons_eq_take_append {op : Byte} {rest : List Byte} (hlen : instrLen op ≤ rest.length + 1) :
    op :: rest =
      [op, rest.getD 0 0, rest.getD 1 0].take (instrLen op) ++ rest.drop (instrLen op - 1) := by
  obtain ⟨hlow, hhigh⟩ := instrLen_bounds op
  interval_cases instrLen op
  · rfl
  · obtain ⟨b1, rest, rfl⟩ := List.exists_cons_of_length_pos (l := rest) (by omega)
    rfl
  · obtain ⟨b1, rest, rfl⟩ := List.exists_cons_of_length_pos (l := rest) (by omega)
    obtain ⟨b2, rest, rfl⟩ := List.exists_cons_of_length_pos (l := rest) (by simp at hlen; omega)
    rfl

theorem decode_cons {op : Byte} {rest : List Byte} (hlen : instrLen op ≤ rest.length + 1) :
    decode (op :: rest) =
      .ok (decodeInstr op (rest.getD 0 0) (rest.getD 1 0)) (rest.drop (instrLen op - 1)) := by
  rw [cons_eq_take_append hlen, decode_take_append]

/-- A stream that ends inside its first instruction is refused (30_encoding.md R105). -/
theorem decode_truncated {op : Byte} {rest : List Byte} (hlen : rest.length + 1 < instrLen op) :
    decode (op :: rest) = .error (.truncated op) := by
  obtain ⟨hlow, hhigh⟩ := instrLen_bounds op
  unfold decode
  interval_cases hop : instrLen op
  · omega
  · obtain rfl : rest = [] := List.length_eq_zero_iff.mp (by omega)
    simp [hop]
  · cases rest with
    | nil => simp [hop]
    | cons b1 rest =>
      obtain rfl : rest = [] := List.length_eq_zero_iff.mp (by simp at hlen; omega)
      simp [hop]

/-- Settles O4: a stream is long enough for its first instruction or not. -/
theorem everyByteDecodes : Obligations.EveryByteDecodes := fun op _ =>
  ⟨fun hlen => ⟨_, decode_cons hlen, decodeInstr_wf op _ _⟩, decode_truncated⟩

/-- Settles O1: each word by running the decoder on it. -/
theorem knownWordsDecode : Obligations.KnownWordsDecode := by
  unfold Obligations.KnownWordsDecode
  decide

end Sys2Proof.Machine
end

section
/-! PROOFS. What an instruction can do to the state, said once as a chain of single writes, and what follows from it for
every instruction, O53 and O55. -/
namespace Sys2Proof.Machine

/-! ### Chains of single writes -/

/-- One write of the state: F only where `flags` allows it, IME, HALTED and the halt-bug latch only where `control`
does. -/
inductive WritesOnce (flags control : Bool) : State → State → Prop
  | setR8 (s : State) (r : R8) (v : Byte) : WritesOnce flags control s (s.setR8 r v)
  | setSp (s : State) (w : Word) : WritesOnce flags control s (s.setSp w)
  | setPc (s : State) (w : Word) : WritesOnce flags control s (s.setPc w)
  | setAddcyc (s : State) (n : Nat) : WritesOnce flags control s (s.setAddcyc n)
  | record (s : State) (x : Option InvalidRecord) :
      WritesOnce flags control s (s.setOut { s.out with invalid := x })
  | memRead (s : State) (addr : Word) : WritesOnce flags control s (s.memRead addr).2
  | memWrite (s : State) (addr : Word) (v : Byte) : WritesOnce flags control s (s.memWrite addr v)
  | setF (s : State) (v : Byte) (allowed : flags = true) : WritesOnce flags control s (s.setF v)
  | setIme (s : State) (v : Bool) (allowed : control = true) : WritesOnce flags control s (s.setIme v)
  | setHalted (s : State) (v : Bool) (allowed : control = true) : WritesOnce flags control s (s.setHalted v)
  | setHaltbug (s : State) (v : Bool) (allowed : control = true) : WritesOnce flags control s (s.setHaltbug v)

/-- Any number of such writes, one after the other. -/
def Writes (flags control : Bool) : State → State → Prop := Relation.ReflTransGen (WritesOnce flags control)

section
variable {flags control : Bool}

theorem Writes.refl (s : State) : Writes flags control s s := Relation.ReflTransGen.refl

theorem Writes.trans {s t u : State} (hst : Writes flags control s t) (htu : Writes flags control t u) :
    Writes flags control s u := Relation.ReflTransGen.trans hst htu

/-- A chain with one more write at its end. -/
theorem Writes.andThen {s t u : State} (hst : Writes flags control s t) (htu : WritesOnce flags control t u) :
    Writes flags control s u := Relation.ReflTransGen.tail hst htu

theorem WritesOnce.writes {s t : State} (hst : WritesOnce flags control s t) : Writes flags control s t :=
  Relation.ReflTransGen.single hst

/-! ### The shared operations as chains -/

theorem writes_setR8 (s : State) (r : R8) (v : Byte) : Writes flags control s (s.setR8 r v) :=
  (WritesOnce.setR8 s r v).writes

theorem writes_setSp (s : State) (w : Word) : Writes flags control s (s.setSp w) := (WritesOnce.setSp s w).writes

theorem writes_setPc (s : State) (w : Word) : Writes flags control s (s.setPc w) := (WritesOnce.setPc s w).writes

theorem writes_memWrite (s : State) (addr : Word) (v : Byte) : Writes flags control s (s.memWrite addr v) :=
  (WritesOnce.memWrite s addr v).writes

theorem writes_memRead (s : State) (addr : Word) : Writes flags control s (s.memRead addr).2 :=
  (WritesOnce.memRead s addr).writes

theorem writes_withFlags (s : State) (z n h c : Bool) : Writes true control s (s.withFlags z n h c) :=
  (WritesOnce.setF s _ rfl).writes

theorem writes_getR8 (s : State) (r : R8) : Writes flags control s (s.getR8 r).2 := by
  obtain ⟨-, hreg⟩ | ⟨-, hmem⟩ := s.getR8_cases r
  · rw [hreg]; exact .refl s
  · rw [hmem]; exact writes_memRead s s.hl

theorem writes_setR8_getR8 (s : State) (r dst : R8) (v : Byte) :
    Writes flags control s ((s.getR8 r).2.setR8 dst v) :=
  (writes_getR8 s r).andThen (.setR8 _ dst v)

/-- The two halves of a pair are written one after the other. -/
theorem writes_setHalves (s : State) (high low : R8) (w : Word) :
    Writes flags control s ((s.setR8 high (hi8 w)).setR8 low (lo8 w)) :=
  (writes_setR8 s high (hi8 w)).andThen (.setR8 _ low (lo8 w))

theorem writes_setHl (s : State) (w : Word) : Writes flags control s (s.setHl w) := writes_setHalves s .h .l w

theorem writes_setRp (s : State) (p : Rp) (w : Word) : Writes flags control s (s.setRp p w) := by
  cases p with
  | bc => exact writes_setHalves s .b .c w
  | de => exact writes_setHalves s .d .e w
  | hl => exact writes_setHl s w
  | sp => exact writes_setSp s w

theorem writes_memWrite16 (s : State) (addr w : Word) : Writes flags control s (s.memWrite16 addr w) :=
  (writes_memWrite s addr _).andThen (.memWrite _ _ _)

theorem writes_fetch8 (s : State) : Writes flags control s s.fetch8.2 :=
  (writes_memRead s s.pc).andThen (.setPc _ _)

theorem writes_push16 (s : State) (w : Word) : Writes flags control s (s.push16 w) :=
  (((writes_setSp s _).andThen (.memWrite _ _ _)).andThen (.setSp _ _)).andThen (.memWrite _ _ _)

theorem writes_pop16 (s : State) : Writes flags control s s.pop16.2 :=
  (((writes_memRead s s.sp).andThen (.setSp _ _)).andThen (.memRead _ _)).andThen (.setSp _ _)

theorem writes_readPending (s : State) : Writes flags control s s.readPending :=
  (writes_memRead s ifAddr).andThen (.memRead _ ieAddr)

/-! ### The shapes of instructions as chains -/

theorem writes_aluA (s : State) (op : Alu) (v : Byte) : Writes true control s (s.aluA op v) := by
  rw [State.aluA_eq]
  exact (writes_setR8 s .a _).trans (writes_withFlags _ _ _ _ _)

theorem writes_aluR8 (s : State) (op : Alu) (r : R8) : Writes true control s (s.aluR8 op r) :=
  (writes_getR8 s r).trans (writes_aluA _ op _)

theorem writes_incR8 (s : State) (r : R8) : Writes true control s (s.incR8 r) :=
  (writes_setR8_getR8 s r r _).trans (writes_withFlags _ _ _ _ _)

theorem writes_decR8 (s : State) (r : R8) : Writes true control s (s.decR8 r) :=
  (writes_setR8_getR8 s r r _).trans (writes_withFlags _ _ _ _ _)

theorem writes_rotA (s : State) (k : Rot) : Writes true control s (s.rotA k) :=
  (writes_setR8 s .a _).trans (writes_withFlags _ _ _ _ _)

theorem writes_rotR8 (s : State) (k : Rot) (r : R8) : Writes true control s (s.rotR8 k r) :=
  (writes_setR8_getR8 s r r _).trans (writes_withFlags _ _ _ _ _)

theorem writes_bitR8 (s : State) (b : Octal) (r : R8) : Writes true control s (s.bitR8 b r) :=
  (writes_getR8 s r).trans (writes_withFlags _ _ _ _ _)

theorem writes_secondary (s : State) (op2 : Byte) : Writes true control s (s.secondary op2) := by
  unfold State.secondary
  split
  · exact writes_rotR8 s _ _
  · exact writes_bitR8 s _ _
  · exact writes_setR8_getR8 s _ _ _
  · exact writes_setR8_getR8 s _ _ _

theorem writes_call (s : State) (w : Word) : Writes flags control s (s.call w) :=
  (writes_push16 s s.pc).andThen (.setPc _ w)

theorem writes_ret (s : State) : Writes flags control s s.ret := (writes_pop16 s).andThen (.setPc _ _)

/-- A conditional transfer is a chain with cycles added, or nothing. -/
theorem writes_ite_addCycles {s t : State} (taken : Bool) (n : Nat) (hst : Writes flags control s t) :
    Writes flags control s (if taken then t.addCycles n else s) := by
  cases taken with
  | true => exact hst.andThen (.setAddcyc t _)
  | false => exact .refl s

theorem writes_stA (s : State) (addr : Word) : Writes flags control s (s.stA addr) := writes_memWrite s addr s.a

theorem writes_ldA (s : State) (addr : Word) : Writes flags control s (s.ldA addr) :=
  (writes_memRead s addr).andThen (.setR8 _ .a _)

theorem writes_halt (s : State) : Writes flags true s s.halt := by
  unfold State.halt
  split
  · exact (WritesOnce.setHalted s true rfl).writes
  · split_ifs
    · exact (WritesOnce.setHalted s true rfl).writes
    · exact (writes_readPending s).andThen (.setHalted _ true rfl)
    · exact (writes_readPending s).andThen (.setHaltbug _ true rfl)

/-- POP AF alone of the four writes F (46_load16_stack.md R318). -/
theorem writes_pop (s : State) (p : Rp2) : Writes (mayWriteFlags (rowPop p)) control s (s.pop p) := by
  cases p with
  | bc => exact (writes_pop16 s).trans (writes_setHalves _ .b .c _)
  | de => exact (writes_pop16 s).trans (writes_setHalves _ .d .e _)
  | hl => exact (writes_pop16 s).trans (writes_setHl _ _)
  | af => exact ((writes_pop16 s).andThen (.setR8 _ .a _)).andThen (.setF _ _ rfl)

end

/-! ### What an instruction answers -/

/-- The instructions that write IME, HALTED or the halt-bug latch (10_state.md R32 to R34). -/
def writesControl (i : Instr) : Bool := decide (i ∈ [Instr.di, Instr.ei, Instr.reti, Instr.halt])

/-- What an instruction can answer: the end of a chain of the writes it is allowed, or what STOP or the trap of the
invalid opcodes answers. -/
inductive Answers (i : Instr) (s : State) : StepResult → Prop
  | next {t : State} (chain : Writes (mayWriteFlags i) (writesControl i) s t) : Answers i s (.next t)
  | stop (v : Byte) (row : i = .stop v) : Answers i s s.stopBy
  | invalid (x : Instr × Byte) (mem : x ∈ invalidRows) (row : i = x.1) : Answers i s (s.raiseInvalid x.2)

/-- An instruction that 10_state.md R31 lists may write F. -/
theorem Answers.nextFlags {i : Instr} {s t : State} (listed : mayWriteFlags i = true)
    (chain : Writes true (writesControl i) s t) : Answers i s (.next t) :=
  .next (listed ▸ chain)

theorem Answers.nextControl {i : Instr} {s t : State} (listed : writesControl i = true)
    (chain : Writes (mayWriteFlags i) true s t) : Answers i s (.next t) :=
  .next (listed ▸ chain)

/-- Shape by shape, with the flag table of 10_state.md R31 looked up in the encoding. -/
theorem answers_cases : ExecCases Answers where
  alu op r s := .nextFlags (by cases op <;> cases r <;> rfl) (writes_aluR8 s op r)
  aluImm op v s := .nextFlags (by cases op <;> rfl) (writes_aluA s op v)
  inc8 r s := .nextFlags (by cases r <;> rfl) (writes_incR8 s r)
  dec8 r s := .nextFlags (by cases r <;> rfl) (writes_decR8 s r)
  daa s := .nextFlags rfl ((writes_setR8 s .a _).trans (writes_withFlags _ _ _ _ _))
  cpl s := .nextFlags rfl ((writes_setR8 s .a _).trans (writes_withFlags _ _ _ _ _))
  scf s := .nextFlags rfl (writes_withFlags s _ _ _ _)
  ccf s := .nextFlags rfl (writes_withFlags s _ _ _ _)
  addHl p s := .nextFlags (by cases p <;> rfl) ((writes_setHl s _).trans (writes_withFlags _ _ _ _ _))
  inc16 p s := .next (writes_setRp s p _)
  dec16 p s := .next (writes_setRp s p _)
  addSp e s := .nextFlags rfl ((writes_setSp s _).trans (writes_withFlags _ _ _ _ _))
  rlca s := .nextFlags rfl (writes_rotA s _)
  rrca s := .nextFlags rfl (writes_rotA s _)
  rla s := .nextFlags rfl (writes_rotA s _)
  rra s := .nextFlags rfl (writes_rotA s _)
  prefixed s := .nextFlags rfl ((writes_fetch8 s).trans (writes_secondary _ _))
  rot k r s := .nextFlags (by cases k <;> cases r <;> rfl) (writes_rotR8 s k r)
  bit b r s := .nextFlags (by cases b <;> cases r <;> rfl) (writes_bitR8 s b r)
  res b r s := .next (writes_setR8_getR8 s r r _)
  setb b r s := .next (writes_setR8_getR8 s r r _)
  jp w s := .next (writes_setPc s w)
  jpCond cc w s := .next (writes_ite_addCycles _ _ (writes_setPc s w))
  jpHl s := .next (writes_setPc s s.hl)
  jr e s := .next (writes_setPc s _)
  jrCond cc e s := .next (writes_ite_addCycles _ _ (writes_setPc s _))
  call w s := .next (writes_call s w)
  callCond cc w s := .next (writes_ite_addCycles _ _ (writes_call s w))
  ret s := .next (writes_ret s)
  retCond cc s := .next (writes_ite_addCycles _ _ (writes_ret s))
  reti s := .nextControl rfl ((WritesOnce.setIme s true rfl).writes.trans (writes_ret _))
  rst t s := .next (writes_call s (rstVec t))
  ld dst r _ s := .next (writes_setR8_getR8 s r dst _)
  ldImm8 dst v s := .next (writes_setR8 s dst v)
  ldABc s := .next (writes_ldA s s.bc)
  ldADe s := .next (writes_ldA s s.de)
  stABc s := .next (writes_stA s s.bc)
  stADe s := .next (writes_stA s s.de)
  ldAAbs w s := .next (writes_ldA s w)
  stAAbs w s := .next (writes_stA s w)
  stAHlInc s := .next ((writes_stA s s.hl).trans (writes_setHl _ _))
  ldAHlInc s := .next ((writes_ldA s s.hl).trans (writes_setHl _ _))
  stAHlDec s := .next ((writes_stA s s.hl).trans (writes_setHl _ _))
  ldAHlDec s := .next ((writes_ldA s s.hl).trans (writes_setHl _ _))
  stAHigh v s := .next (writes_stA s (highAddr v))
  ldAHigh v s := .next (writes_ldA s (highAddr v))
  stAC s := .next (writes_stA s (highAddr s.c))
  ldAC s := .next (writes_ldA s (highAddr s.c))
  ldImm16 p w s := .next (writes_setRp s p w)
  stSp w s := .next (writes_memWrite16 s w s.sp)
  ldSpHl s := .next (writes_setSp s s.hl)
  ldHlSp e s := .nextFlags rfl ((writes_setHl s _).trans (writes_withFlags _ _ _ _ _))
  push p s := .next (writes_push16 s (s.getRp2 p))
  pop p s := .next (writes_pop s p)
  nop s := .next (.refl s)
  halt s := .nextControl rfl (writes_halt s)
  di s := .nextControl rfl (WritesOnce.setIme s false rfl).writes
  ei s := .nextControl rfl (WritesOnce.setIme s true rfl).writes
  stop v _ := .stop v rfl
  invalid x hx _ := .invalid x hx rfl

/-- Everything an instruction can do, said once. -/
theorem answers_exec (i : Instr) (s : State) : Answers i s (exec i s) := exec_cases answers_cases i s

/-! ### What holds of every chain -/

section
variable {flags control : Bool} {s t : State}

theorem actsOnBus_of_writesOnce (hst : WritesOnce flags control s t) : actsOnBus s t := by
  cases hst with
  | setR8 r v => exact actsOnBus_setR8 s r v
  | memRead addr => exact actsOnBus_memRead s addr
  | memWrite addr v => exact actsOnBus_memWrite s addr v
  | _ => exact actsOnBus_none rfl rfl

theorem actsOnBus_of_writes (hst : Writes flags control s t) : actsOnBus s t := by
  induction hst with
  | refl => exact actsOnBus_none rfl rfl
  | tail _ hlast ih => exact actsOnBus_trans ih (actsOnBus_of_writesOnce hlast)

theorem f_of_writesOnce (hst : WritesOnce false control s t) : t.f = s.f := by
  cases hst with
  | setR8 r v => exact s.setR8_f r v
  | setF v allowed => cases allowed
  | _ => rfl

/-- Without leave to write F, F stays. -/
theorem f_of_writes (hst : Writes false control s t) : t.f = s.f := by
  induction hst with
  | refl => rfl
  | tail _ hlast ih => exact (f_of_writesOnce hlast).trans ih

/-- Every write of F goes through the mask of 10_state.md R29. -/
theorem f_and_0F_of_writesOnce (hst : WritesOnce flags control s t) (hs : s.f &&& 0x0F = 0) : t.f &&& 0x0F = 0 := by
  cases hst with
  | setR8 r v => rw [State.setR8_f]; exact hs
  | setF v => exact and_F0_and_0F v
  | _ => exact hs

theorem f_and_0F_of_writes (hst : Writes flags control s t) (hs : s.f &&& 0x0F = 0) : t.f &&& 0x0F = 0 := by
  induction hst with
  | refl => exact hs
  | tail _ hlast ih => exact f_and_0F_of_writesOnce hlast ih

/-- What no instruction writes: the parameters, the environment and the free-value counter. -/
def keepsSetting (s t : State) : Prop := t.params = s.params ∧ t.env = s.env ∧ t.freeCount = s.freeCount

theorem keepsSetting_of_writesOnce (hst : WritesOnce flags control s t) : keepsSetting s t := by
  cases hst with
  | setR8 r v => exact ⟨s.setR8_params r v, s.setR8_env r v, s.setR8_freeCount r v⟩
  | _ => exact ⟨rfl, rfl, rfl⟩

theorem keepsSetting_of_writes (hst : Writes flags control s t) : keepsSetting s t := by
  induction hst with
  | refl => exact ⟨rfl, rfl, rfl⟩
  | tail _ hlast ih =>
    obtain ⟨hparams, henv, hfree⟩ := ih
    obtain ⟨kparams, kenv, kfree⟩ := keepsSetting_of_writesOnce hlast
    exact ⟨kparams.trans hparams, kenv.trans henv, kfree.trans hfree⟩

/-- Whether the core runs and may be interrupted is as before. -/
def keepsMode (s t : State) : Prop := t.ime = s.ime ∧ t.halted = s.halted ∧ t.haltbug = s.haltbug

theorem keepsMode_of_writesOnce (hst : WritesOnce flags false s t) : keepsMode s t := by
  cases hst with
  | setR8 r v => exact ⟨s.setR8_ime r v, s.setR8_halted r v, s.setR8_haltbug r v⟩
  | setIme v allowed => cases allowed
  | setHalted v allowed => cases allowed
  | setHaltbug v allowed => cases allowed
  | _ => exact ⟨rfl, rfl, rfl⟩

theorem keepsMode_of_writes (hst : Writes flags false s t) : keepsMode s t := by
  induction hst with
  | refl => exact ⟨rfl, rfl, rfl⟩
  | tail _ hlast ih =>
    obtain ⟨hime, hhalted, hhaltbug⟩ := ih
    obtain ⟨kime, khalted, khaltbug⟩ := keepsMode_of_writesOnce hlast
    exact ⟨kime.trans hime, khalted.trans hhalted, khaltbug.trans hhaltbug⟩

end

/-! ### What holds of every instruction that has a next state -/

/-- The trap of the invalid opcodes leaves its record or faults, by `INVALID_OPCODE_BEHAVIOUR` (60_exceptions.md
R350). -/
theorem State.raiseInvalid_cases (s : State) (op : Byte) :
    s.raiseInvalid op = .next (s.setOut { s.out with invalid := some { addr := s.out.iaddr, op := op } }) ∨
    s.params.invalidOpcode = .fault ∧ s.raiseInvalid op = .fault (.invalidOpcode s.out.iaddr op) := by
  cases h : s.params.invalidOpcode with
  | nop => exact .inl (State.raiseInvalid_of_nop h op)
  | fault => exact .inr ⟨rfl, State.raiseInvalid_of_fault h op⟩

theorem writes_of_raiseInvalid {s t : State} {op : Byte} {flags control : Bool} (hnext : s.raiseInvalid op = .next t) :
    Writes flags control s t := by
  obtain hrecord | ⟨-, hfault⟩ := s.raiseInvalid_cases op
  · obtain rfl := Host.Outcome.next.inj (hrecord.symm.trans hnext)
    exact (WritesOnce.record s _).writes
  · cases hfault.symm.trans hnext

theorem writes_of_stopBy {s t : State} {flags control : Bool} (hnext : s.stopBy = .next t) :
    Writes flags control s t := by
  cases hstop : s.params.stop with
  | refuse => cases (State.stopBy_of_refuse hstop).symm.trans hnext
  | nop2 =>
    obtain rfl := Host.Outcome.next.inj ((State.stopBy_of_nop2 hstop).symm.trans hnext)
    exact .refl s
  | invalid => exact writes_of_raiseInvalid ((State.stopBy_of_invalid hstop).symm.trans hnext)

/-- Every instruction that has a next state reaches it by the writes it is allowed. -/
theorem writes_of_exec {i : Instr} {s t : State} (hnext : exec i s = .next t) :
    Writes (mayWriteFlags i) (writesControl i) s t := by
  have hanswer := answers_exec i s
  generalize hr : exec i s = r at hanswer
  rw [hr] at hnext
  cases hanswer with
  | next chain =>
    obtain rfl := Host.Outcome.next.inj hnext
    exact chain
  | stop v => exact writes_of_stopBy hnext
  | invalid x => exact writes_of_raiseInvalid hnext

/-- Settles O55: a chain of writes acts on the bus through its accesses, and every instruction is such a chain. -/
theorem memoryChangesOnlyByBusWrites : Obligations.MemoryChangesOnlyByBusWrites := fun _ _ _ hnext =>
  actsOnBus_of_writes (writes_of_exec hnext)

/-- Settles O53: an instruction that R31 does not list has no leave to write F. -/
theorem onlyListedInstructionsWriteFlags : Obligations.OnlyListedInstructionsWriteFlags :=
  ⟨fun _ _ _ hnext hlist => f_of_writes (hlist ▸ writes_of_exec hnext), State.dispatch_f, fun _ => rfl⟩

end Sys2Proof.Machine
end

section
/-! PROOFS. 60_exceptions.md R351 to R353: the machine cycle as a whole, what every cycle keeps, when it stops, and O56
to O58. -/
namespace Sys2Proof.Machine

/-! ### The machine cycle in terms of its instruction -/

/-- What a machine cycle makes of the answer of its instruction, whose base count is `base`. -/
def finishCycle (base : Nat) : StepResult → StepResult
  | .next t => .next (t.endStep base).afterStep
  | .fault e => .fault e
  | .refused r => .refused r

theorem step_halted {s : State} (hhalted : s.halted = true) : step s = .next s.haltTick.afterStep := by
  rw [step, machineCycle, instrStep_halted hhalted]

/-- The base count of the instruction that a step fetches (60_exceptions.md R352). -/
def State.fetchedBase (s : State) : Nat := baseCycles s.params.cyc s.beginStep.fetch.op s.beginStep.fetch.b1

theorem step_running {s : State} (hrun : s.halted = false) :
    step s = finishCycle s.fetchedBase (exec s.beginStep.fetch.instr s.atExec) := by
  rw [step, machineCycle, instrStep_running hrun]
  cases exec s.beginStep.fetch.instr s.atExec <;> rfl

/-! ### What every machine cycle keeps -/

theorem replayBus_rules (acc : List BusEvent) (b : Bus) : (replayBus acc b).rules = b.rules := by
  induction acc generalizing b with
  | nil => rfl
  | cons e es ih =>
    cases e with
    | read addr v => exact ih b
    | write addr v => exact (ih _).trans (busWrite_rules b addr v)

theorem rules_of_actsOnBus {s t : State} (hst : actsOnBus s t) : t.busState.rules = s.busState.rules := by
  obtain ⟨acc, -, -, hbus⟩ := hst
  rw [hbus, replayBus_rules]

theorem memWf_of_actsOnBus {s t : State} (hst : actsOnBus s t) (hs : Memory.wf s.busState.mem = true) :
    Memory.wf t.busState.mem = true := by
  obtain ⟨acc, -, -, hbus⟩ := hst
  rw [hbus]
  exact memWf_replayBus acc hs

/-- The end of a step clears ADDCYC, whatever it was (60_exceptions.md R352). -/
theorem inv_endStep {s : State} (hmem : Memory.wf s.busState.mem = true) (hf : s.f &&& 0x0F = 0) (base : Nat) :
    (s.endStep base).Inv := ⟨hmem, hf, rfl⟩

/-- Up to `afterStep` a machine cycle is a halt tick, or an instruction, which writes no setting and keeps the
invariant. -/
theorem step_next_afterStep {s t : State} (hnext : step s = .next t) :
    ∃ u, t = u.afterStep ∧ keepsSetting s u ∧ u.busState.rules = s.busState.rules ∧ (s.Inv → u.Inv) := by
  obtain ⟨-, rfl⟩ | ⟨-, u, base, hexec, rfl⟩ := step_next_cases hnext
  · exact ⟨s.haltTick, rfl, ⟨rfl, rfl, rfl⟩, rfl, id⟩
  · have hchain := writes_of_exec hexec
    have hbus := actsOnBus_of_writes hchain
    obtain ⟨hparams, henv, hfree⟩ := keepsSetting_of_writes hchain
    refine ⟨u.endStep base, rfl, ⟨?params, ?env, ?free⟩, ?rules, fun ⟨hmem, hf, _⟩ => ?inv⟩
    case params => exact hparams.trans s.atExec_params
    case env => exact henv.trans s.atExec_env
    case free => exact hfree.trans s.atExec_freeCount
    case rules => exact (rules_of_actsOnBus hbus).trans (congrArg Bus.rules s.atExec_busState)
    case inv =>
      refine inv_endStep (memWf_of_actsOnBus hbus ?_) (f_and_0F_of_writes hchain ?_) base
      · rwa [State.atExec_busState]
      · rwa [State.atExec_f]

/-- Settles O56: each part of the invariant is computed. -/
theorem invariantHoldsAtReset : Obligations.InvariantHoldsAtReset := ⟨memWf_reset, rfl, rfl⟩

/-- Settles O57: the instruction keeps the invariant up to ADDCYC, which the end of the step clears; then the rest of
the machine cycle keeps it. -/
theorem everyStepKeepsInvariant : Obligations.EveryStepKeepsInvariant := by
  intro s t hinv hnext
  obtain ⟨u, rfl, -, -, hu⟩ := step_next_afterStep hnext
  exact inv_afterStep (hu hinv)

/-! ### When a machine cycle stops -/

/-- An interrupt check writes on the bus, which changes none of its rules. -/
theorem State.interruptCheck_rules (s : State) : s.interruptCheck.2.busState.rules = s.busState.rules := by
  obtain ⟨-, -, hcheck⟩ | ⟨src, -, -, hcheck⟩ | ⟨-, -, -, -, hcheck⟩ | ⟨-, -, -, -, hcheck⟩ | ⟨-, -, hcheck⟩ :=
    s.interruptCheck_cases <;> simp [hcheck]

theorem State.envAdvance_rules (s : State) : s.envAdvance.busState.rules = s.busState.rules := by
  refine State.envAdvance_keeps (P := fun t => t.busState.rules = s.busState.rules) (fun _ _ h => h)
    (fun t ev h => ?_) rfl
  cases ev with
  | bus c => exact (busChange_rules t.busState c).trans h
  | haltbugSet => exact h
  | reset => exact h

theorem State.afterStep_rules (s : State) : s.afterStep.busState.rules = s.busState.rules := by
  have hcheck := s.envAdvance.interruptCheck_rules.trans s.envAdvance_rules
  unfold State.afterStep
  dsimp only
  split
  · exact (State.envAdvance_rules _).trans hcheck
  · exact hcheck

/-- An instruction has a next state, or is STOP under `refuse`, or is one of the invalid opcodes (or STOP under
`invalid`) under `fault` (60_exceptions.md R351). -/
theorem exec_stops (i : Instr) (s : State) :
    (∃ t, exec i s = .next t) ∨
    (exec i s = .refused .stopRefused ∧ s.params.stop = .refuse ∧ ∃ v, i = .stop v) ∨
    (s.params.invalidOpcode = .fault ∧ ∃ op, exec i s = .fault (.invalidOpcode s.out.iaddr op) ∧
      ((i, op) ∈ invalidRows ∨ op = 0x10 ∧ s.params.stop = .invalid ∧ ∃ v, i = .stop v)) := by
  have hanswer := answers_exec i s
  generalize exec i s = r at hanswer
  cases hanswer with
  | next => exact .inl ⟨_, rfl⟩
  | stop v hrow =>
    cases hstop : s.params.stop with
    | refuse => exact .inr (.inl ⟨State.stopBy_of_refuse hstop, rfl, v, hrow⟩)
    | nop2 => exact .inl ⟨s, State.stopBy_of_nop2 hstop⟩
    | invalid =>
      rw [State.stopBy_of_invalid hstop]
      obtain hrecord | ⟨hfault, hanswer⟩ := s.raiseInvalid_cases 0x10
      · exact .inl ⟨_, hrecord⟩
      · exact .inr (.inr ⟨hfault, 0x10, hanswer, .inr ⟨rfl, rfl, v, hrow⟩⟩)
  | invalid x hmem hrow =>
    subst hrow
    obtain hrecord | ⟨hfault, hanswer⟩ := s.raiseInvalid_cases x.2
    · exact .inl ⟨_, hrecord⟩
    · exact .inr (.inr ⟨hfault, x.2, hanswer, .inl hmem⟩)

/-- The instruction that a step fetches begins with the byte at PC. -/
theorem encode_fetched_head (s : State) : (encode s.beginStep.fetch.instr).head? = some (s.peek s.pc) := by
  rw [Fetched.instr, encode_decodeInstr_head, State.fetch_op]
  rfl

theorem peek_pc_of_fetched_stop {s : State} {v : Byte} (hstop : s.beginStep.fetch.instr = .stop v) :
    s.peek s.pc = 0x10 := by
  have hhead := encode_fetched_head s
  rw [hstop] at hhead
  exact (Option.some.inj hhead).symm

theorem peek_pc_of_fetched_invalid {s : State} {x : Instr × Byte} (hx : x ∈ invalidRows)
    (hrow : s.beginStep.fetch.instr = x.1) : s.peek s.pc = x.2 := by
  have hhead := encode_fetched_head s
  rw [hrow, (encode_invalidRows x hx).1] at hhead
  exact (Option.some.inj hhead).symm

/-- Settles O58: a machine cycle stops where its instruction does, which its first byte and the parameters decide. -/
theorem everyStepIsTotal : Obligations.EveryStepIsTotal := by
  intro s
  have hkeeps {t : State} (hnext : step s = .next t) :
      ∃ t, step s = .next t ∧ t.params = s.params ∧ t.busState.rules = s.busState.rules := by
    obtain ⟨u, rfl, ⟨hparams, -, -⟩, hrules, -⟩ := step_next_afterStep hnext
    exact ⟨_, hnext, u.afterStep_params.trans hparams, u.afterStep_rules.trans hrules⟩
  cases hhalted : s.halted with
  | true => exact .inl (hkeeps (step_halted hhalted))
  | false =>
    have hstep := step_running hhalted
    have hstops := exec_stops s.beginStep.fetch.instr s.atExec
    rw [State.atExec_params, State.atExec_iaddr] at hstops
    obtain ⟨t, hexec⟩ | ⟨hexec, hrefuse, v, hstop⟩ | ⟨hfault, op, hexec, hwhich⟩ := hstops
    all_goals rw [hexec] at hstep
    · exact .inl (hkeeps hstep)
    · exact .inr (.inl ⟨hstep, rfl, peek_pc_of_fetched_stop hstop, hrefuse⟩)
    · obtain hmem | ⟨rfl, hinvalid, v, hstop⟩ := hwhich
      · have hpeek := peek_pc_of_fetched_invalid hmem rfl
        rw [hpeek]
        exact .inr (.inr ⟨hstep, rfl, hfault, .inl (List.mem_map_of_mem (f := Prod.snd) hmem)⟩)
      · have hpeek := peek_pc_of_fetched_stop hstop
        rw [hpeek]
        exact .inr (.inr ⟨hstep, rfl, hfault, .inr ⟨rfl, hinvalid⟩⟩)

end Sys2Proof.Machine
end

section
/-! PROOFS. 60_exceptions.md R352 and R371: the halt tick, the outputs, and who writes the control state, O6, O54 and
O59. -/
namespace Sys2Proof.Machine

/-! ### The halt tick and the outputs -/

/-- Settles O6: a halt tick writes the outputs alone. -/
theorem haltTickChangesNothing : Obligations.HaltTickChangesNothing := fun s hhalted =>
  ⟨s.haltTick, instrStep_halted hhalted, rfl, rfl, rfl, rfl, rfl⟩

/-- Each step starts with outputs of its own, be it a halt tick or an instruction (60_exceptions.md R352). -/
theorem haltTick_setOut (s : State) (o : Output) : (s.setOut o).haltTick = s.haltTick := rfl

theorem beginStep_setOut (s : State) (o : Output) : (s.setOut o).beginStep = s.beginStep := rfl

theorem atExec_setOut (s : State) (o : Output) : (s.setOut o).atExec = s.atExec := by
  rw [State.atExec, beginStep_setOut]; rfl

theorem fetchedBase_setOut (s : State) (o : Output) : (s.setOut o).fetchedBase = s.fetchedBase := by
  rw [State.fetchedBase, beginStep_setOut]; rfl

/-- Settles O59: neither a halt tick nor the start of an instruction reads the outputs that were there. -/
theorem outputsAreNeverRead : Obligations.OutputsAreNeverRead := by
  intro s o
  cases hhalted : s.halted with
  | true => rw [step_halted hhalted, step_halted (s := s.setOut o) hhalted, haltTick_setOut]
  | false =>
    rw [step_running hhalted, step_running (s := s.setOut o) hhalted, beginStep_setOut, atExec_setOut,
      fetchedBase_setOut]

/-! ### The instructions that write the control state -/

theorem exec_reti (s : State) : exec .reti s = .next s.returnFromInterrupt := rfl

/-- HALT leaves IME under every choice of `HALTBUG_CONDITION`. -/
theorem State.halt_ime (s : State) : s.halt.ime = s.ime := by
  unfold State.halt
  split
  · rfl
  · split_ifs <;> rfl

/-- What an instruction does to the control state, by its name. -/
theorem control_of_exec {i : Instr} {s t : State} (hnext : exec i s = .next t) :
    (i = .di → t.ime = false) ∧ (i = .ei ∨ i = .reti → t.ime = true) ∧
    (i ≠ .di → i ≠ .ei → i ≠ .reti → t.ime = s.ime) ∧ (i ≠ .halt → t.halted = s.halted) ∧
    (i ≠ .halt ∨ s.params.haltbugCondition = .envOnly → t.haltbug = s.haltbug) := by
  cases hcontrol : writesControl i with
  | true =>
    have hrow : i = .di ∨ i = .ei ∨ i = .reti ∨ i = .halt := by simpa [writesControl] using hcontrol
    obtain rfl | rfl | rfl | rfl := hrow
    · obtain rfl := Host.Outcome.next.inj ((exec_di s).symm.trans hnext)
      simp
    · obtain rfl := Host.Outcome.next.inj ((exec_ei s).symm.trans hnext)
      simp
    · obtain rfl := Host.Outcome.next.inj ((exec_reti s).symm.trans hnext)
      simp
    · obtain rfl := Host.Outcome.next.inj ((exec_halt s).symm.trans hnext)
      refine ⟨by simp, by simp, fun _ _ _ => s.halt_ime, by simp, fun hlatch => ?_⟩
      have henvOnly := hlatch.resolve_left (fun hne => hne rfl)
      rw [State.halt_of_envOnly henvOnly, State.setHalted_haltbug]
  | false =>
    have hrow : i ≠ .di ∧ i ≠ .ei ∧ i ≠ .reti ∧ i ≠ .halt := by simpa [writesControl] using hcontrol
    obtain ⟨hdi, hei, hreti, -⟩ := hrow
    obtain ⟨hime, hhalted, hhaltbug⟩ := keepsMode_of_writes (hcontrol ▸ writes_of_exec hnext)
    exact ⟨fun h => absurd h hdi, fun h => absurd h (not_or.mpr ⟨hei, hreti⟩), fun _ _ _ => hime, fun _ => hhalted,
      fun _ => hhaltbug⟩

/-! ### The environment -/

/-- Bit by bit, `mergeBits` takes the value where the mask is set. -/
theorem getLsbD_mergeBits (mask v old : Byte) {j : Nat} (hj : j < 8) :
    (mergeBits mask v old).getLsbD j = if mask.getLsbD j then v.getLsbD j else old.getLsbD j := by
  rw [mergeBits, BitVec.getLsbD_or, BitVec.getLsbD_and, BitVec.getLsbD_and, BitVec.getLsbD_not]
  cases mask.getLsbD j <;> simp [hj]

/-- A put changes the bits of its mask at its address, and no other byte. -/
theorem busRead_put (b : Bus) (addr : Word) (mask v : Byte) :
    (∀ j < 8, (busRead (busChange b (.put addr mask v)) addr).getLsbD j =
      if mask.getLsbD j then v.getLsbD j else (busRead b addr).getLsbD j) ∧
    ∀ a : Word, a ≠ addr → busRead (busChange b (.put addr mask v)) a = busRead b a := by
  refine ⟨fun j hj => ?_, fun a ha => busRead_busPut_other b _ ha⟩
  rw [busChange, busRead_busPut_same, getLsbD_mergeBits mask v _ hj]

/-- Without a reset, what the environment does is its changes of the bus and the latch, and nothing else. -/
theorem State.envEvents_of_no_reset {s : State} {es : List EnvEvent} (hes : EnvEvent.reset ∉ es) :
    s.envEvents es =
      (s.setBusState (busChanges s.busState (es.filterMap EnvEvent.busPart))).setHaltbug
        (s.haltbug || decide (EnvEvent.haltbugSet ∈ es)) := by
  induction es generalizing s with
  | nil => simp [State.envEvents, busChanges, State.setBusState, State.setHaltbug]
  | cons e es ih =>
    rw [List.mem_cons, not_or] at hes
    obtain ⟨he, hes⟩ := hes
    rw [State.envEvents, ih hes]
    cases e with
    | bus c => simp [State.envEvent, EnvEvent.busPart, busChanges, State.setBusState]
    | haltbugSet => simp [List.filterMap_cons, State.envEvent, EnvEvent.busPart, State.setHaltbug, State.setBusState]
    | reset => exact absurd rfl he

theorem State.envAdvance_of_nil {s : State} (henv : s.env = []) : s.envAdvance = s := by
  rw [State.envAdvance, henv]

theorem State.envAdvance_of_cons {s : State} {es : List EnvEvent} {rest : List (List EnvEvent)}
    (henv : s.env = es :: rest) : s.envAdvance = (s.setEnv rest).envEvents es := by
  rw [State.envAdvance, henv]

/-- Only the list, the bus and the latch tell a state from the one before `EnvAdvance` (60_exceptions.md R371). -/
theorem restore_env_bus_latch (s : State) (env : List (List EnvEvent)) (bus : Bus) (latch : Bool) :
    (((((s.setEnv env).setBusState bus).setHaltbug latch).setEnv s.env).setBusState s.busState).setHaltbug s.haltbug =
      s := by
  cases s; rfl

/-- The count of the interrupt check is the one recorded, and decides whether the environment moves once more
(60_exceptions.md R353). -/
theorem State.afterStep_env (s : State) :
    s.afterStep.env = s.env.drop (if s.afterStep.out.dispatchCycles = 0 then 1 else 2) := by
  unfold State.afterStep
  dsimp only
  split
  next hpos =>
    have hcount : s.envAdvance.interruptCheck.1 ≠ 0 := by omega
    simp [hcount]
  next hzero =>
    have hcount : s.envAdvance.interruptCheck.1 = 0 := by omega
    simp [hcount]

/-- Settles O54: the instructions by name, the events by kind, and the list of the environment entry by entry. -/
theorem onlyNamedEventsWriteControl : Obligations.OnlyNamedEventsWriteControl := by
  refine ⟨fun i s t hnext => ?instr, fun s c => ⟨rfl, busChange_rules s.busState c⟩, fun s addr mask v => ?put,
    fun s => ⟨rfl, rfl⟩, fun s es rest henv => ?advance, fun s => State.envAdvance_of_nil, fun s t hnext => ?step⟩
  case instr =>
    obtain ⟨hdi, hei, hime, hhalted, hhaltbug⟩ := control_of_exec hnext
    exact ⟨hdi, hei, hime, hhalted, hhaltbug, keepsSetting_of_writes (writes_of_exec hnext)⟩
  case put =>
    obtain ⟨hbits, hothers⟩ := busRead_put s.busState addr mask v
    exact ⟨hbits, fun a ha => hothers a (List.ne_of_not_mem_cons ha)⟩
  case advance =>
    have hadvance := State.envAdvance_of_cons henv
    refine ⟨?list, ?bus, s.envAdvance_params, s.envAdvance_out, fun hes => ?noReset⟩
    case list => rw [hadvance, State.envEvents_env, State.setEnv_env]
    case bus => rw [hadvance, State.envEvents_busState, State.setEnv_busState]
    case noReset =>
      rw [hadvance, State.envEvents_of_no_reset hes]
      exact ⟨by simp, restore_env_bus_latch s _ _ _⟩
  case step =>
    obtain ⟨u, rfl, ⟨-, henv, -⟩, -, -⟩ := step_next_afterStep hnext
    rw [State.afterStep_env, henv]

end Sys2Proof.Machine
end

section
/-! PROOFS. 30_encoding.md R90 and R96: what a step fetches, with and without the halt-bug latch, and O5 and O7. -/
namespace Sys2Proof.Machine

/-! ### The bytes of an instruction -/

/-- Where the byte after the opcode is fetched: the latch keeps PC at the opcode (10_state.md R34). -/
def State.operandAddr (s : State) : Word := if s.haltbug then s.pc else s.pc + 1

theorem peek_fetchOpcode (s : State) : s.fetchOpcode.2.peek = s.peek := peek_of_busState s.fetchOpcode_snd_busState

theorem peek_fetch8 (s : State) : s.fetch8.2.peek = s.peek := peek_of_busState s.fetch8_snd_busState

/-- What a fetch takes is decided by the first byte, but for a STOP byte under `STOP_BEHAVIOUR = invalid` (log 15). -/
theorem State.fetchLen_eq {s : State} {op : Byte} (hop : ¬(op = 0x10 ∧ s.params.stop = .invalid)) :
    s.fetchLen op = instrLen op := if_neg hop

/-- The instruction fetched is read off the bytes fetched alone. -/
theorem fetch_instr_eq (s : State) : s.fetch.instr = instrOfBytes s.fetch.bytes := by
  unfold State.fetch
  dsimp only
  split <;> rfl

/-- Only the prefix is counted by its second byte (70_reset_and_hazards.md R411), and it takes two bytes. -/
theorem baseCycles_of_one_byte {op : Byte} (hlen : instrLen op = 1) (c : CycleTables) (b b' : Byte) :
    baseCycles c op b = baseCycles c op b' := by
  have hne : op ≠ 0xCB := by
    rintro rfl
    exact absurd hlen (by decide)
  rw [baseCycles, baseCycles, if_neg hne, if_neg hne]

section
variable {s : State} (hlen : s.fetchLen (s.peek s.pc) = instrLen (s.peek s.pc))
include hlen

theorem fetch_bytes :
    s.fetch.bytes =
      [s.peek s.pc, s.peek s.operandAddr, s.peek (s.operandAddr + 1)].take (instrLen (s.peek s.pc)) := by
  obtain ⟨hlow, hhigh⟩ := instrLen_bounds (s.peek s.pc)
  interval_cases instrLen (s.peek s.pc)
  · rw [State.fetch_one hlen]; rfl
  · simp [State.fetch_two hlen, peek_fetchOpcode, State.operandAddr]
  · simp [State.fetch_three hlen, peek_fetchOpcode, peek_fetch8, State.operandAddr]

theorem fetch_instr :
    s.fetch.instr = decodeInstr (s.peek s.pc) (s.peek s.operandAddr) (s.peek (s.operandAddr + 1)) := by
  rw [fetch_instr_eq, fetch_bytes hlen, instrOfBytes_take]

theorem fetch_after_pc :
    s.fetch.after.pc = s.operandAddr + BitVec.ofNat 16 (instrLen (s.peek s.pc) - 1) := by
  obtain ⟨hlow, hhigh⟩ := instrLen_bounds (s.peek s.pc)
  interval_cases instrLen (s.peek s.pc)
  · rw [State.fetch_one hlen]; simp [State.operandAddr]
  · simp [State.fetch_two hlen, State.operandAddr]
  · simp [State.fetch_three hlen, State.operandAddr, add_one_add_one]

/-- Without the latch the bytes are read from PC on, one after the other (20_memory.md R80). -/
theorem fetch_after_bus (hlatch : s.haltbug = false) :
    s.fetch.after.out.bus = s.out.bus ++
      (List.range (instrLen (s.peek s.pc))).map
        (fun k => .read (s.pc + BitVec.ofNat 16 k) (s.peek (s.pc + BitVec.ofNat 16 k))) := by
  obtain ⟨hlow, hhigh⟩ := instrLen_bounds (s.peek s.pc)
  interval_cases instrLen (s.peek s.pc)
  · simp [State.fetch_one hlen, State.fetchOpcode_bus]
  · simp [State.fetch_two hlen, State.fetchOpcode_bus, State.fetch8_bus, peek_fetchOpcode, hlatch, List.range_succ]
  · simp [State.fetch_three hlen, State.fetchOpcode_bus, State.fetch8_bus, peek_fetchOpcode, peek_fetch8, hlatch,
      List.range_succ, add_one_add_one]

/-- The count of the instruction, where the second byte matters for the prefix only. -/
theorem fetch_baseCycles (c : CycleTables) :
    baseCycles c s.fetch.op s.fetch.b1 = baseCycles c (s.peek s.pc) (s.peek s.operandAddr) := by
  rw [State.fetch_op]
  obtain ⟨hlow, hhigh⟩ := instrLen_bounds (s.peek s.pc)
  interval_cases hop : instrLen (s.peek s.pc)
  · exact baseCycles_of_one_byte hop c _ _
  · simp [State.fetch_two hlen, peek_fetchOpcode, State.operandAddr]
  · simp [State.fetch_three hlen, peek_fetchOpcode, State.operandAddr]

end

/-! ### The start of a step -/

/-- Fetching changes nothing of the machine but PC, the latch, ADDCYC and the outputs. -/
theorem keepsData_atExec (s : State) : keepsData s s.atExec :=
  ⟨by simp [keepsRegsBut], s.atExec_f, keepsBus_of_busState s.atExec_busState⟩

theorem keepsControl_atExec {s : State} (hlatch : s.haltbug = false) : keepsControl s s.atExec := by
  simp [keepsControl, hlatch]

/-- The trace entry is what was fetched at PC (60_exceptions.md R380). -/
theorem atExec_trace (s : State) :
    s.atExec.out.trace = some { addr := s.pc, bytes := s.beginStep.fetch.bytes, instr := s.beginStep.fetch.instr } :=
  rfl

theorem one_add_ofNat_pred {n : Nat} (hn : 1 ≤ n) : (1 : Word) + BitVec.ofNat 16 (n - 1) = BitVec.ofNat 16 n := by
  rw [show (1 : Word) = BitVec.ofNat 16 1 from rfl, ← BitVec.ofNat_add, Nat.add_sub_cancel' hn]

section
variable {s : State} (hstop : ¬(s.peek s.pc = 0x10 ∧ s.params.stop = .invalid))
include hstop

theorem beginStep_fetchLen : s.beginStep.fetchLen (s.beginStep.peek s.beginStep.pc) = instrLen (s.peek s.pc) :=
  State.fetchLen_eq (s := s) hstop

theorem fetchedBase_eq : s.fetchedBase = baseCycles s.params.cyc (s.peek s.pc) (s.peek s.operandAddr) :=
  fetch_baseCycles (beginStep_fetchLen hstop) _

theorem fetched_bytes_eq :
    s.beginStep.fetch.bytes =
      [s.peek s.pc, s.peek s.operandAddr, s.peek (s.operandAddr + 1)].take (instrLen (s.peek s.pc)) :=
  fetch_bytes (beginStep_fetchLen hstop)

theorem fetched_instr_eq :
    s.beginStep.fetch.instr = decodeInstr (s.peek s.pc) (s.peek s.operandAddr) (s.peek (s.operandAddr + 1)) :=
  fetch_instr (beginStep_fetchLen hstop)

theorem atExec_pc : s.atExec.pc = s.operandAddr + BitVec.ofNat 16 (instrLen (s.peek s.pc) - 1) :=
  fetch_after_pc (beginStep_fetchLen hstop)

/-- A step runs the instruction that the bytes at PC and at `operandAddr` encode. -/
theorem step_fetched (hrun : s.halted = false) :
    step s =
      finishCycle (baseCycles s.params.cyc (s.peek s.pc) (s.peek s.operandAddr))
        (exec (decodeInstr (s.peek s.pc) (s.peek s.operandAddr) (s.peek (s.operandAddr + 1))) s.atExec) := by
  rw [step_running hrun, fetchedBase_eq hstop, fetched_instr_eq hstop]

end

/-- Settles O7: with the latch set the operand bytes stand where the opcode does. -/
theorem haltBugSuppressesOneIncrement : Obligations.HaltBugSuppressesOneIncrement := by
  intro s hrun hlatch hstop
  have haddr : s.operandAddr = s.pc := if_pos hlatch
  have hpc := atExec_pc hstop
  have hstep := step_fetched hstop hrun
  rw [haddr] at hpc hstep
  exact ⟨hpc, s.atExec_haltbug, s.atExec_sp, keepsData_atExec s, hstep⟩

/-- Settles O5: the bytes at PC are those of the instruction decoded, and they are what a step fetches. -/
theorem stepRunsDecodedInstruction : Obligations.StepRunsDecodedInstruction := by
  intro s i rest hrun hlatch hstop hdec
  have haddr : s.operandAddr = s.pc + 1 := by simp [State.operandAddr, hlatch]
  have hnext : s.pc + 1 + 1 = s.pc + 2 := add_one_add_one s.pc
  obtain ⟨hlow, hhigh⟩ := instrLen_bounds (s.peek s.pc)
  have hinstr : decodeInstr (s.peek s.pc) (s.peek (s.pc + 1)) (s.peek (s.pc + 2)) = i := by
    rw [decode_cons hhigh] at hdec
    exact (Decoded.ok.inj hdec).1
  have henc := encode_decodeInstr (s.peek s.pc) (s.peek (s.pc + 1)) (s.peek (s.pc + 2))
  rw [hinstr] at henc
  have hlen : (encode i).length = instrLen (s.peek s.pc) := by
    rw [henc, List.length_take]
    exact min_eq_left hhigh
  have hstep := step_fetched hstop hrun
  rw [haddr, hnext, hinstr] at hstep
  refine ⟨hstep, ?pc, ?bus, s.atExec_iaddr, ?trace, s.atExec_sp, s.atExec_addcyc, keepsData_atExec s,
    keepsControl_atExec hlatch⟩
  case pc =>
    rw [atExec_pc hstop, haddr, hlen, BitVec.add_assoc, one_add_ofNat_pred hlow]
  case bus =>
    rw [hlen]
    exact fetch_after_bus (beginStep_fetchLen hstop) hlatch
  case trace =>
    have hbytes := fetched_bytes_eq hstop
    have hfetched := fetched_instr_eq hstop
    rw [haddr, hnext] at hbytes hfetched
    rw [atExec_trace, hbytes, hfetched, hinstr, henc]

end Sys2Proof.Machine
end

section
/-! PROOFS. 20_memory.md: the bus under reads and writes, the bytes that each storing form leaves, and O11, O13 and
O48. -/
namespace Sys2Proof.Machine

/-! ### One write -/

/-- A write that no rule covers is stored (20_memory.md R62). -/
theorem busWrite_of_uncovered {b : Bus} {addr : Word} {v : Byte} (hrule : ruleFor b.mode addr v b.rules = none) :
    busWrite b addr v = busPut b addr v := by
  rw [busWrite, hrule]

/-- A write that a rule covers puts the bits of `stores`, and then the rule's changes are made (20_memory.md R63). -/
theorem busWrite_of_covered {b : Bus} {addr : Word} {v : Byte} {r : BusRule}
    (hrule : ruleFor b.mode addr v b.rules = some r) :
    busWrite b addr v = busChanges (busChange b (.put addr r.stores v)) r.changes := by
  rw [busWrite, hrule]; rfl

/-- The clauses of a covered write, by what the rule changes at once. -/
theorem busWrite_changes {b : Bus} {addr : Word} {v : Byte} {r : BusRule}
    (hrule : ruleFor b.mode addr v b.rules = some r) :
    (r.changes = [] → busWrite b addr v = busChange b (.put addr r.stores v)) ∧
    (∀ c, r.changes = [c] → busWrite b addr v = busChange (busChange b (.put addr r.stores v)) c) := by
  rw [busWrite_of_covered hrule]
  refine ⟨fun h => ?_, fun c h => ?_⟩
  · rw [h]; rfl
  · rw [h]; rfl

/-! ### Writes on plain memory -/

theorem rules_busWrite_of_plain {b : Bus} (hplain : b.rules = []) (addr : Word) (v : Byte) :
    (busWrite b addr v).rules = [] := (busWrite_rules b addr v).trans hplain

/-- On plain memory the addresses not written read as before. -/
theorem busRead_busWrites_other {b : Bus} (hplain : b.rules = []) {bytes : List (Word × Byte)} {addr : Word}
    (haddr : addr ∉ bytes.map Prod.fst) : busRead (busWrites b bytes) addr = busRead b addr := by
  induction bytes generalizing b with
  | nil => rfl
  | cons x bytes ih =>
    rw [List.map_cons, List.mem_cons, not_or] at haddr
    obtain ⟨hne, haddr⟩ := haddr
    rw [busWrites, ih (rules_busWrite_of_plain hplain _ _) haddr, busWrite_plain hplain, busRead_busPut_other b _ hne]

/-- On plain memory every byte written reads back, where no address is written twice. -/
theorem busRead_busWrites_mem {b : Bus} (hplain : b.rules = []) {bytes : List (Word × Byte)}
    (hdistinct : (bytes.map Prod.fst).Nodup) : ∀ x ∈ bytes, busRead (busWrites b bytes) x.1 = x.2 := by
  induction bytes generalizing b with
  | nil => exact fun x hx => absurd hx List.not_mem_nil
  | cons y bytes ih =>
    rw [List.map_cons, List.nodup_cons] at hdistinct
    obtain ⟨hy, hdistinct⟩ := hdistinct
    have hplain' := rules_busWrite_of_plain hplain y.1 y.2
    intro x hx
    obtain rfl | hx := List.mem_cons.mp hx
    · rw [busWrites, busRead_busWrites_other hplain' hy, busWrite_plain hplain, busRead_busPut_same]
    · exact ih hplain' hdistinct x hx

/-- What a list of writes leaves on plain memory, in the terms of a state. -/
theorem stores_of_busWrites {s t : State} {bytes : List (Word × Byte)} (hplain : plainBus s)
    (hbus : t.busState = busWrites s.busState bytes) (hdistinct : (bytes.map Prod.fst).Nodup) :
    keepsMemoryBut (bytes.map Prod.fst) s t ∧ ∀ x ∈ bytes, t.peek x.1 = x.2 := by
  simp only [keepsMemoryBut, State.peek, hbus]
  exact ⟨fun _ => busRead_busWrites_other hplain, busRead_busWrites_mem hplain hdistinct⟩

/-- The two bytes of the stack that a push writes are not the same (20_memory.md R68). -/
theorem sub_one_ne_sub_two (w : Word) : w - 1 ≠ w - 2 := fun h => absurd (sub_right_injective h) (by decide)

/-- Settles O11: reads leave the bus, and a write is a put with the changes of the rule that covers it, if one does. -/
theorem memoryReadsBackWrites : Obligations.MemoryReadsBackWrites := by
  refine ⟨fun s addr => ⟨rfl, rfl, rfl⟩, fun s addr v => ?write, fun s addr v hrule => ?uncovered,
    fun s addr v r hrule => ?covered, fun s addr w => ?word⟩
  case write =>
    obtain ⟨hacc, hregs, hf, hflow⟩ := leavesCoreBut_memWrite s addr v
    exact ⟨hacc, hregs, hf, hflow, busWrite_rules s.busState addr v, memWf_memWrite addr v⟩
  case uncovered =>
    have hbus : (s.memWrite addr v).busState = busPut s.busState addr v := busWrite_of_uncovered hrule
    simp only [keepsMemoryBut, State.peek, hbus]
    exact ⟨busRead_busPut_same _ _ _, fun a ha => busRead_busPut_other _ _ (List.ne_of_not_mem_cons ha), rfl⟩
  case covered =>
    have hbus : (s.memWrite addr v).busState = busWrite s.busState addr v := rfl
    obtain ⟨hnone, hone⟩ := busWrite_changes hrule
    obtain ⟨hbits, hothers⟩ := busRead_put s.busState addr r.stores v
    simp only [keepsMemoryBut, State.peek, hbus]
    refine ⟨fun hchanges => ?nothing, fun a mask x hchanges hne => ?put, fun n hchanges => ?mode⟩
    case nothing =>
      rw [hnone hchanges]
      exact ⟨hbits, fun a ha => hothers a (List.ne_of_not_mem_cons ha), rfl⟩
    case put =>
      rw [hone _ hchanges]
      obtain ⟨kbits, kothers⟩ := busRead_put (busChange s.busState (.put addr r.stores v)) a mask x
      rw [hothers a hne] at kbits
      rw [kothers addr hne.symm]
      refine ⟨hbits, kbits, fun c hc => ?_⟩
      simp only [List.mem_cons, List.not_mem_nil, or_false, not_or] at hc
      rw [kothers c hc.2, hothers c hc.1]
    case mode => rw [hone _ hchanges]; rfl
  case word =>
    obtain ⟨hacc, -⟩ := leavesCoreBut_memWrite16 s addr w
    refine ⟨hacc, rfl, fun hplain => ?_⟩
    have hdistinct : ([(addr, lo8 w), (addr + 1, hi8 w)].map Prod.fst).Nodup := by
      simp
    obtain ⟨hkeeps, hstored⟩ := stores_of_busWrites (t := s.memWrite16 addr w) hplain rfl hdistinct
    exact ⟨hstored (addr, lo8 w) (by simp), hstored (addr + 1, hi8 w) (by simp), hkeeps⟩

/-! ### The storing forms -/

theorem storesExactly_of {i : Instr} {s t : State} {bytes : List (Word × Byte)} (hexec : exec i s = .next t)
    (hbus : t.busState = busWrites s.busState bytes) (hdistinct : (bytes.map Prod.fst).Nodup) :
    storesExactly i s bytes :=
  ⟨t, hexec, hbus, fun hplain => stores_of_busWrites hplain hbus hdistinct⟩

theorem storesExactly_one {i : Instr} {s t : State} {addr : Word} {v : Byte} (hexec : exec i s = .next t)
    (hbus : t.busState = busWrite s.busState addr v) : storesExactly i s [(addr, v)] :=
  storesExactly_of hexec hbus (List.nodup_singleton addr)

/-- An operand in memory that is read and written back, with flags after it or not, is one write at HL. -/
theorem setR8_getR8_memHl_busState (s : State) (v : Byte) :
    ((s.getR8 .memHl).2.setR8 .memHl v).busState = busWrite s.busState s.hl v := rfl

theorem ldR8_memHl_busState (s : State) (r : R8) :
    (s.ldR8 .memHl r).busState = busWrite s.busState s.hl (r8Value s r) := by
  cases r <;> rfl

/-- The two bytes of `w` that a push writes, high byte first (20_memory.md R68). -/
def pushedBytes (s : State) (w : Word) : List (Word × Byte) := [(s.sp - 1, hi8 w), (s.sp - 2, lo8 w)]

theorem pushedBytes_distinct (s : State) (w : Word) : ((pushedBytes s w).map Prod.fst).Nodup :=
  List.nodup_cons.mpr ⟨fun h => sub_one_ne_sub_two s.sp (List.mem_singleton.mp h), List.nodup_singleton _⟩

theorem push16_busWrites (s : State) (w : Word) :
    (s.push16 w).busState = busWrites s.busState (pushedBytes s w) := s.push16_busState w

theorem storesExactly_push {i : Instr} {s t : State} {w : Word} (hexec : exec i s = .next t)
    (hbus : t.busState = (s.push16 w).busState) : storesExactly i s (pushedBytes s w) :=
  storesExactly_of hexec (hbus.trans (push16_busWrites s w)) (pushedBytes_distinct s w)

theorem storesExactly_rowCall (s : State) (cc : Cond) (w : Word) :
    storesExactly (rowCall cc w) s (if condHolds s cc then pushedBytes s s.pc else []) := by
  have hexec := exec_rowCall cc w s
  rw [State.callCond, cond_eq_condHolds] at hexec
  cases hcond : condHolds s cc with
  | true =>
    rw [hcond] at hexec
    exact storesExactly_push hexec rfl
  | false =>
    rw [hcond] at hexec
    exact storesExactly_of hexec rfl List.nodup_nil

/-- Settles O48: each form is one write, two of a word, or a push. -/
theorem storedBytesAndNoOthers : Obligations.StoredBytesAndNoOthers := by
  intro s
  refine ⟨storesExactly_one rfl (setR8_getR8_memHl_busState s _),
    storesExactly_one rfl (setR8_getR8_memHl_busState s _),
    fun k => storesExactly_one (exec_rowRot k .memHl s) (setR8_getR8_memHl_busState s _),
    fun b => storesExactly_one (exec_rowRes b .memHl s) (setR8_getR8_memHl_busState s _),
    fun b => storesExactly_one (exec_rowSet b .memHl s) (setR8_getR8_memHl_busState s _),
    fun r hr => storesExactly_one (exec_rowLd (by simp [hr]) s) (ldR8_memHl_busState s r),
    fun v => storesExactly_one rfl rfl, storesExactly_one rfl rfl, storesExactly_one rfl rfl,
    fun w => storesExactly_one rfl rfl, fun n => storesExactly_one rfl rfl, storesExactly_one rfl rfl,
    storesExactly_one rfl rfl, storesExactly_one rfl rfl, fun w => ?storeSp,
    fun p => storesExactly_push (exec_rowPush p s) rfl, fun w => storesExactly_push rfl rfl,
    fun n => storesExactly_push (exec_rowRst n s) rfl, storesExactly_rowCall s⟩
  case storeSp => exact storesExactly_of (t := s.memWrite16 w s.sp) rfl rfl (by simp)

/-! ### PUSH and POP -/

/-- On plain memory a pop after a push gives the word pushed (46_load16_stack.md R317). -/
theorem pop16_push16 {s : State} (hplain : plainBus s) (w : Word) : (s.push16 w).pop16.1 = w := by
  obtain ⟨-, hstored⟩ := stores_of_busWrites hplain (push16_busWrites s w) (pushedBytes_distinct s w)
  have hsp : s.sp - 2 + 1 = s.sp - 1 := by ring
  have hhigh : (s.push16 w).peek (s.sp - 1) = hi8 w := hstored (s.sp - 1, hi8 w) (by simp [pushedBytes])
  have hlow : (s.push16 w).peek (s.sp - 2) = lo8 w := hstored (s.sp - 2, lo8 w) (by simp [pushedBytes])
  rw [State.pop16_fst, State.push16_sp, hsp, hhigh, hlow, mk16_hi8_lo8]

/-- AF as it reads has no low four bits to drop (10_state.md R29). -/
theorem getRp2_masked (s : State) (p : Rp2) : (if p = .af then s.getRp2 p &&& 0xFFF0 else s.getRp2 p) = s.getRp2 p := by
  split
  next h =>
    subst h
    exact (mk16_and_FFF0 _ _).trans (congrArg (mk16 s.a) (and_F0_and_F0 s.f))
  next => rfl

/-- Settles O13: the word pushed is the word popped, and SP goes down and up again. -/
theorem pushThenPopMovesPair : Obligations.PushThenPopMovesPair := by
  intro s p q hplain
  have hword : ((s.push p).pop q).getRp2 q = if q = .af then s.getRp2 p &&& 0xFFF0 else s.getRp2 p := by
    rw [State.pop, getRp2_setRp2, State.push, pop16_push16 hplain]
  refine ⟨s.push p, exec_rowPush p s, (s.push p).pop q, exec_rowPop q _, ?same, hword, ?sp, ?memory⟩
  case same =>
    rintro rfl
    rw [hword, getRp2_masked]
  case sp =>
    rw [State.pop_sp, State.push, State.push16_sp]
    exact sub_add_cancel _ _
  case memory =>
    obtain ⟨hkeeps, -⟩ := stores_of_busWrites hplain (push16_busWrites s (s.getRp2 p)) (pushedBytes_distinct s _)
    exact fun addr haddr => ((keepsBus_pop _ q).2 addr).trans (hkeeps addr haddr)

end Sys2Proof.Machine
end

section
/-! PROOFS. 42_rotate_shift_bit.md R206 and 30_encoding.md R99: the laws of the rotates and bit operations, the prefix
entry, and O28 and O29. -/
namespace Sys2Proof.Machine

/-! ### Rotates of a byte with the Carry -/

/-- One rotate of a byte and the Carry. -/
def rotPair (k : Rot) (x : Byte × Bool) : Byte × Bool := (rotRes k x.1 x.2, rotCarry k x.1)

/-- What moves every bit by `k` places round a ring of `m` moves it by `n * k` when done `n` times. -/
theorem bit_iterate {α : Type} {f : α → α} {bit : α → Nat → Bool} {m k : Nat}
    (hmove : ∀ x, ∀ j < m, bit (f x) j = bit x ((j + k) % m)) (n : Nat) (x : α) :
    ∀ j < m, bit (f^[n] x) j = bit x ((j + n * k) % m) := by
  induction n generalizing x with
  | zero => intro j hj; rw [Nat.zero_mul, Nat.add_zero, Nat.mod_eq_of_lt hj]; rfl
  | succ n ih =>
    intro j hj
    have hring : (j + n * k) % m < m := Nat.mod_lt _ (by omega)
    rw [Function.iterate_succ_apply, ih (f x) j hj, hmove x _ hring, Nat.mod_add_mod, Nat.add_assoc, ← Nat.succ_mul]

/-- A whole turn of the ring restores it. -/
theorem bit_iterate_turn {α : Type} {f : α → α} {bit : α → Nat → Bool} {m k n : Nat}
    (hmove : ∀ x, ∀ j < m, bit (f x) j = bit x ((j + k) % m)) (hturn : n * k % m = 0) (x : α) :
    ∀ j < m, bit (f^[n] x) j = bit x j := by
  intro j hj
  rw [bit_iterate hmove n x j hj, Nat.add_mod, hturn, Nat.add_zero, Nat.mod_mod, Nat.mod_eq_of_lt hj]

/-- RLC, RRC and SWAP turn the eight bits of the byte; the turn closes after `n` of them. -/
theorem rotPair_iterate_byte {k : Rot} {places n : Nat}
    (hrot : ∀ v carry j, rotatedBit k v carry j = v.getLsbD ((j + places) % 8)) (hturn : n * places % 8 = 0)
    (x : Byte × Bool) : ((rotPair k)^[n] x).1 = x.1 :=
  BitVec.eq_of_getLsbD_eq <|
    bit_iterate_turn (bit := fun x j => x.1.getLsbD j)
      (fun x j hj => (getLsbD_rotRes k x.1 x.2 j hj).trans (hrot x.1 x.2 j)) hturn x

theorem rotPair_rlc_iterate (x : Byte × Bool) : ((rotPair .rlc)^[8] x).1 = x.1 :=
  rotPair_iterate_byte (places := 7) (fun _ _ _ => rfl) (by decide) x

theorem rotPair_rrc_iterate (x : Byte × Bool) : ((rotPair .rrc)^[8] x).1 = x.1 :=
  rotPair_iterate_byte (places := 1) (fun _ _ _ => rfl) (by decide) x

theorem rotPair_swap_iterate (x : Byte × Bool) : ((rotPair .swap)^[2] x).1 = x.1 :=
  rotPair_iterate_byte (places := 4) (fun _ _ _ => rfl) (by decide) x

/-- The byte and, as bit 8, the Carry. -/
def ringBit (x : Byte × Bool) (j : Nat) : Bool := if j = 8 then x.2 else x.1.getLsbD j

theorem ringBit_rl (x : Byte × Bool) : ∀ j < 9, ringBit (rotPair .rl x) j = ringBit x ((j + 8) % 9) := by
  intro j hj
  obtain hbyte | rfl := Nat.lt_succ_iff_lt_or_eq.mp hj
  · rw [ringBit, if_neg hbyte.ne, rotPair, getLsbD_rotRes .rl x.1 x.2 j hbyte]
    interval_cases j <;> rfl
  · rfl

theorem ringBit_rr (x : Byte × Bool) : ∀ j < 9, ringBit (rotPair .rr x) j = ringBit x ((j + 1) % 9) := by
  intro j hj
  obtain hbyte | rfl := Nat.lt_succ_iff_lt_or_eq.mp hj
  · rw [ringBit, if_neg hbyte.ne, rotPair, getLsbD_rotRes .rr x.1 x.2 j hbyte]
    interval_cases j <;> rfl
  · rfl

/-- A byte and Carry are their nine bits. -/
theorem eq_of_ringBit {x y : Byte × Bool} (h : ∀ j < 9, ringBit x j = ringBit y j) : x = y := by
  refine Prod.ext (BitVec.eq_of_getLsbD_eq fun j hj => ?byte) (h 8 (by decide))
  case byte =>
    have hbit := h j (by omega)
    rwa [ringBit, ringBit, if_neg (by omega), if_neg (by omega)] at hbit

theorem rotPair_rl_iterate (x : Byte × Bool) : (rotPair .rl)^[9] x = x :=
  eq_of_ringBit (bit_iterate_turn ringBit_rl (by decide) x)

theorem rotPair_rr_iterate (x : Byte × Bool) : (rotPair .rr)^[9] x = x :=
  eq_of_ringBit (bit_iterate_turn ringBit_rr (by decide) x)

/-! ### Repeated rotates of an operand -/

/-- An instruction that rotates what `view` sees of the state, again and again, rotates it as often. -/
theorem execTimes_rotPair {i : Instr} {k : Rot} {f : State → State} {view : State → Byte × Bool} {ok : State → Prop}
    (hexec : ∀ s, exec i s = .next (f s)) (hok : ∀ s, ok s → ok (f s))
    (hview : ∀ s, ok s → view (f s) = rotPair k (view s)) (n : Nat) {s : State} (hs : ok s) :
    ∃ t, execTimes i n s = .next t ∧ view t = (rotPair k)^[n] (view s) := by
  induction n generalizing s with
  | zero => exact ⟨s, rfl, rfl⟩
  | succ n ih =>
    obtain ⟨t, htimes, ht⟩ := ih (hok s hs)
    refine ⟨t, ?_, ?_⟩
    · rw [execTimes, hexec]; exact htimes
    · rw [Function.iterate_succ_apply, ht, hview s hs]

theorem execTimes_rotA {i : Instr} {k : Rot} (hexec : ∀ s, exec i s = .next (s.rotA k)) (n : Nat) (s : State) :
    ∃ t, execTimes i n s = .next t ∧ (t.a, t.flagC) = (rotPair k)^[n] (s.a, s.flagC) := by
  refine execTimes_rotPair (ok := fun _ => True) (view := fun s => (s.a, s.flagC)) hexec (fun _ _ => trivial)
    (fun s _ => ?_) n trivial
  exact congrArg (Prod.mk _) (flagC_withFlags _ _ _ _ _)

/-- An operand read after it is written: in memory, where the bus is plain. -/
theorem r8Value_setR8_getR8 {s : State} {r : R8} (hplain : r = .memHl → plainBus s) (v : Byte) :
    r8Value ((s.getR8 r).2.setR8 r v) r = v := by
  cases r with
  | memHl => exact peek_memWrite_same (s := (s.getR8 .memHl).2) (hplain rfl) s.hl v
  | _ => rfl

theorem r8Value_withFlags (s : State) (z n h c : Bool) (r : R8) : r8Value (s.withFlags z n h c) r = r8Value s r := by
  cases r <;> rfl

theorem rotPair_rotR8 {s : State} {r : R8} (hplain : r = .memHl → plainBus s) (k : Rot) :
    (r8Value (s.rotR8 k r) r, (s.rotR8 k r).flagC) = rotPair k (r8Value s r, s.flagC) := by
  obtain ⟨-, -, -, hcarry⟩ := flagsAre_rotR8 s k r
  rw [hcarry, State.rotR8, r8Value_withFlags, r8Value_setR8_getR8 hplain, getR8_fst]
  rfl

theorem plainBus_rotR8 {s : State} (hplain : plainBus s) (k : Rot) (r : R8) : plainBus (s.rotR8 k r) :=
  (rules_of_actsOnBus (actsOnBus_of_writes (writes_rotR8 (control := false) s k r))).trans hplain

theorem execTimes_rowRot {s : State} {r : R8} (hplain : r = .memHl → plainBus s) (k : Rot) (n : Nat) :
    ∃ t, execTimes (rowRot k r) n s = .next t ∧
      (r8Value t r, t.flagC) = (rotPair k)^[n] (r8Value s r, s.flagC) :=
  execTimes_rotPair (ok := fun s => r = .memHl → plainBus s) (view := fun s => (r8Value s r, s.flagC))
    (exec_rowRot k r) (fun _ h hr => plainBus_rotR8 (h hr) k r) (fun _ h => rotPair_rotR8 h k) n hplain

/-! ### BIT after RES and SET -/

theorem octal_toNat_lt (b : Octal) : b.toNat < 8 := by cases b <;> decide

theorem flagC_of_f {s t : State} (hf : t.f = s.f) : t.flagC = s.flagC := by
  rw [State.flagC, State.flagC, getF_of_f hf]

theorem flagC_setR8_getR8 (s : State) (r : R8) (v : Byte) : ((s.getR8 r).2.setR8 r v).flagC = s.flagC :=
  flagC_of_f ((State.setR8_f _ r v).trans (s.getR8_snd_f r))

/-- BIT tests the operand that another instruction has written, and keeps the Carry. -/
theorem completes_rowBit_after {s : State} {r : R8} (hplain : r = .memHl → plainBus s) (b : Octal) (v : Byte) :
    completes (rowBit b r) ((s.getR8 r).2.setR8 r v) fun u =>
      u.flagZ = !v.getLsbD b.toNat ∧ u.flagC = s.flagC := by
  obtain ⟨hz, -, -, hc⟩ := flagsAre_bitR8 ((s.getR8 r).2.setR8 r v) b r
  rw [r8Value_setR8_getR8 hplain] at hz
  exact ⟨_, exec_rowBit b r _, hz, hc.trans (flagC_setR8_getR8 s r v)⟩

/-! ### The laws of the rotates -/

theorem rotA_restores {i : Instr} {k : Rot} {n : Nat} (hexec : ∀ s, exec i s = .next (s.rotA k))
    (hturn : ∀ x, ((rotPair k)^[n] x).1 = x.1) (s : State) : ∃ t, execTimes i n s = .next t ∧ t.a = s.a := by
  obtain ⟨t, htimes, ht⟩ := execTimes_rotA hexec n s
  exact ⟨t, htimes, (congrArg Prod.fst ht).trans (hturn _)⟩

theorem rotA_restores_carry {i : Instr} {k : Rot} {n : Nat} (hexec : ∀ s, exec i s = .next (s.rotA k))
    (hturn : ∀ x, (rotPair k)^[n] x = x) (s : State) :
    ∃ t, execTimes i n s = .next t ∧ t.a = s.a ∧ t.flagC = s.flagC := by
  obtain ⟨t, htimes, ht⟩ := execTimes_rotA hexec n s
  exact ⟨t, htimes, Prod.mk.inj (ht.trans (hturn _))⟩

section
variable {s : State} {r : R8} (hplain : r = .memHl → plainBus s)
include hplain

theorem rowRot_restores {k : Rot} {n : Nat} (hturn : ∀ x, ((rotPair k)^[n] x).1 = x.1) :
    ∃ t, execTimes (rowRot k r) n s = .next t ∧ r8Value t r = r8Value s r := by
  obtain ⟨t, htimes, ht⟩ := execTimes_rowRot hplain k n
  exact ⟨t, htimes, (congrArg Prod.fst ht).trans (hturn _)⟩

theorem rowRot_restores_carry {k : Rot} {n : Nat} (hturn : ∀ x, (rotPair k)^[n] x = x) :
    ∃ t, execTimes (rowRot k r) n s = .next t ∧ r8Value t r = r8Value s r ∧ t.flagC = s.flagC := by
  obtain ⟨t, htimes, ht⟩ := execTimes_rowRot hplain k n
  exact ⟨t, htimes, Prod.mk.inj (ht.trans (hturn _))⟩

theorem rowRes_then_rowBit (b : Octal) :
    completes (rowRes b r) s fun t =>
      t.flagC = s.flagC ∧ completes (rowBit b r) t fun u => u.flagZ = true ∧ u.flagC = s.flagC := by
  have hbit := completes_rowBit_after hplain b (resBit b (s.getR8 r).1)
  rw [getLsbD_resBit b _ (octal_toNat_lt b), if_pos rfl] at hbit
  exact ⟨s.resR8 b r, exec_rowRes b r s, flagC_setR8_getR8 s r _, hbit⟩

theorem rowSet_then_rowBit (b : Octal) :
    completes (rowSet b r) s fun t =>
      t.flagC = s.flagC ∧ completes (rowBit b r) t fun u => u.flagZ = false ∧ u.flagC = s.flagC := by
  have hbit := completes_rowBit_after hplain b (setBit b (s.getR8 r).1)
  rw [getLsbD_setBit b _ (octal_toNat_lt b), if_pos rfl] at hbit
  exact ⟨s.setBitR8 b r, exec_rowSet b r s, flagC_setR8_getR8 s r _, hbit⟩

end

/-- Settles O28: each rotate turns a ring of eight or nine bits, and RES and SET leave the bit that BIT tests. -/
theorem rotatesArePeriodic : Obligations.RotatesArePeriodic := by
  refine ⟨fun s => ⟨?eightOnA, ?nineOnA⟩, fun s r hplain => ⟨?eight, ?nine, ?two, fun b => ⟨?bit, ?res, ?set⟩⟩⟩
  case eightOnA =>
    exact List.forall_mem_cons.mpr ⟨rotA_restores (fun _ => rfl) rotPair_rlc_iterate s,
      List.forall_mem_singleton.mpr (rotA_restores (fun _ => rfl) rotPair_rrc_iterate s)⟩
  case nineOnA =>
    exact List.forall_mem_cons.mpr ⟨rotA_restores_carry (fun _ => rfl) rotPair_rl_iterate s,
      List.forall_mem_singleton.mpr (rotA_restores_carry (fun _ => rfl) rotPair_rr_iterate s)⟩
  case eight =>
    exact List.forall_mem_cons.mpr ⟨rowRot_restores hplain rotPair_rlc_iterate,
      List.forall_mem_singleton.mpr (rowRot_restores hplain rotPair_rrc_iterate)⟩
  case nine =>
    exact List.forall_mem_cons.mpr ⟨rowRot_restores_carry hplain rotPair_rl_iterate,
      List.forall_mem_singleton.mpr (rowRot_restores_carry hplain rotPair_rr_iterate)⟩
  case two => exact rowRot_restores hplain rotPair_swap_iterate
  case bit =>
    obtain ⟨-, -, -, hcarry⟩ := flagsAre_bitR8 s b r
    exact ⟨s.bitR8 b r, exec_rowBit b r s, hcarry⟩
  case res => exact rowRes_then_rowBit hplain b
  case set => exact rowSet_then_rowBit hplain b

/-! ### The prefix entry -/

theorem exec_prefixCb (s : State) : exec .prefixCb s = .next (s.fetch8.2.secondary (s.peek s.pc)) := rfl

/-- Running the instruction decoded from a secondary byte is running the byte's entry (30_encoding.md R101). -/
theorem exec_decodeSecondary (op2 : Byte) (s : State) : exec (decodeSecondary op2) s = .next (s.secondary op2) := by
  have hx := fieldX_lt op2
  unfold decodeSecondary State.secondary
  interval_cases fieldX op2
  · exact exec_rowRot _ _ s
  · exact exec_rowBit _ _ s
  · exact exec_rowRes _ _ s
  · exact exec_rowSet _ _ s

theorem keepsFlow_secondary (s : State) (op2 : Byte) : keepsFlow s (s.secondary op2) := by
  unfold State.secondary
  split
  · obtain ⟨-, -, -, -, hflow⟩ := writesBack_rotR8 s (Rot.ofCode (fieldY op2)) (R8.ofCode (fieldZ op2))
    exact hflow
  · obtain ⟨-, -, -, hflow⟩ := leavesAllBut_bitR8 s (fieldY op2) (R8.ofCode (fieldZ op2))
    exact hflow
  · obtain ⟨-, -, -, -, -, -, -, hflow⟩ := putsBit_resR8 s (fieldY op2) (R8.ofCode (fieldZ op2))
    exact hflow
  · obtain ⟨-, -, -, -, -, -, -, hflow⟩ := putsBit_setBitR8 s (fieldY op2) (R8.ofCode (fieldZ op2))
    exact hflow

/-- Settles O29: the prefix entry is one fetch and the entry of the byte fetched. -/
theorem prefixRunsSecondaryEntry : Obligations.PrefixRunsSecondaryEntry := by
  intro s b2
  obtain ⟨hsp, hpc, haddcyc, hcontrol⟩ := keepsFlow_secondary s.fetch8.2 (s.peek s.pc)
  refine ⟨?runs, s.fetch8_snd_pc, s.fetch8_bus, _, exec_prefixCb s, hpc, hsp, haddcyc, hcontrol⟩
  case runs => exact (exec_prefixCb s).trans (exec_decodeSecondary (s.peek s.pc) s.fetch8.2).symm

end Sys2Proof.Machine
end

section
/-! PROOFS. 60_exceptions.md R353, R361 and R365, 92_eei_decisions.md D13 and D14: HALT, waking and dispatch at the end
of a machine cycle, and O37, O52 and O60. -/
namespace Sys2Proof.Machine

/-! ### HALT under `HALTBUG_CONDITION = lr35902` -/

theorem State.halt_of_lr35902 {s : State} (h : s.params.haltbugCondition = .lr35902) :
    s.halt =
      if s.ime then s.setHalted true
      else if s.pendingMask = 0 then s.readPending.setHalted true
      else s.readPending.setHaltbug true := by
  rw [State.halt, h]

/-- From `s` to `t` nothing but HALTED, the halt-bug latch and the outputs changes. -/
def leavesAllButHalt (s t : State) : Prop :=
  t.ime = s.ime ∧ keepsData s t ∧ t.sp = s.sp ∧ t.pc = s.pc ∧ t.addcyc = s.addcyc ∧ t.params = s.params ∧
  t.env = s.env ∧ t.freeCount = s.freeCount

theorem leavesAllButHalt_readPending_setHalted (s : State) : leavesAllButHalt s (s.readPending.setHalted true) :=
  ⟨rfl, keepsData_refl s, rfl, rfl, rfl, rfl, rfl, rfl⟩

theorem leavesAllButHalt_readPending_setHaltbug (s : State) : leavesAllButHalt s (s.readPending.setHaltbug true) :=
  ⟨rfl, keepsData_refl s, rfl, rfl, rfl, rfl, rfl, rfl⟩

/-- Settles O37: with IME = 1 HALT halts; with IME = 0 the pending mask decides between the latch and halting. -/
theorem haltUnderHaltBugCondition : Obligations.HaltUnderHaltBugCondition := by
  intro s hcondition
  refine ⟨s.halt, exec_halt s, ?_⟩
  rw [State.halt_of_lr35902 hcondition]
  cases hime : s.ime with
  | true => exact ⟨⟨rfl, rfl⟩, hime, keepsData_refl s, rfl, rfl, rfl, rfl, rfl, rfl⟩
  | false =>
    by_cases hmask : s.pendingMask = 0
    · have hnone : ¬(false = false ∧ s.peek 0xFF0F &&& s.peek 0xFFFF &&& 0x1F ≠ 0) := fun h => h.2 hmask
      rw [if_neg hnone, if_neg Bool.false_ne_true, if_pos hmask, ← hime]
      exact ⟨⟨rfl, rfl⟩, leavesAllButHalt_readPending_setHalted s⟩
    · rw [if_pos ⟨rfl, hmask⟩, if_neg Bool.false_ne_true, if_neg hmask, ← hime]
      exact ⟨⟨rfl, rfl⟩, leavesAllButHalt_readPending_setHaltbug s⟩

/-! ### The end of a machine cycle in a quiescent environment -/

theorem step_of_instrStep {s t : State} (hstep : instrStep s = .next t) : step s = .next t.afterStep := by
  rw [step, machineCycle, hstep]

/-- With no coming action of the environment the cycle ends with the interrupt check (60_exceptions.md R353). -/
theorem State.afterStep_quiescent {s : State} (henv : s.env = []) :
    s.afterStep =
      s.interruptCheck.2.setOut { s.interruptCheck.2.out with dispatchCycles := s.interruptCheck.1 } := by
  have hquiet : s.interruptCheck.2.env = [] := s.interruptCheck_env.trans henv
  unfold State.afterStep
  rw [State.envAdvance_of_nil henv]
  dsimp only
  split
  · exact State.envAdvance_of_nil hquiet
  · rfl

/-- With IME = 1 the source that `Highest` finds is dispatched (60_exceptions.md R359). -/
theorem State.interruptCheck_of_pending {s : State} {src : Source} (hime : s.ime = true)
    (hsrc : highest s.pendingMask = some src) :
    s.interruptCheck = (s.params.intDispatchCycles, s.readPending.dispatch src (s.peek ifAddr)) := by
  simp [State.interruptCheck, hime, hsrc]

theorem busWrites_rules (b : Bus) (bytes : List (Word × Byte)) : (busWrites b bytes).rules = b.rules := by
  induction bytes generalizing b with
  | nil => rfl
  | cons x bytes ih => exact (ih _).trans (busWrite_rules b x.1 x.2)

/-- On plain memory one more write hides what the writes before it left at its own address, and nothing else. -/
theorem busRead_busWrites_then {b : Bus} (hplain : b.rules = []) {bytes : List (Word × Byte)}
    (hdistinct : (bytes.map Prod.fst).Nodup) (addr : Word) (v : Byte) :
    busRead (busWrite (busWrites b bytes) addr v) addr = v ∧
    ∀ x ∈ bytes, x.1 ≠ addr → busRead (busWrite (busWrites b bytes) addr v) x.1 = x.2 := by
  rw [busWrite_plain ((busWrites_rules b bytes).trans hplain)]
  refine ⟨busRead_busPut_same _ _ _, fun x hx hne => ?_⟩
  rw [busRead_busPut_other _ _ hne, busRead_busWrites_mem hplain hdistinct x hx]

/-- The bytes that the writes of interrupt entry leave on plain memory: IF, and the return address where it is not IF
(60_exceptions.md R360). -/
theorem stores_of_entryWrites {s t : State} {v : Byte} (hplain : plainBus s)
    (hbus : t.busState = busWrites s.busState [(s.sp - 1, hi8 s.pc), (s.sp - 2, lo8 s.pc), (ifAddr, v)]) :
    (s.sp - 1 ≠ ifAddr → t.peek (s.sp - 1) = hi8 s.pc) ∧ (s.sp - 2 ≠ ifAddr → t.peek (s.sp - 2) = lo8 s.pc) ∧
    t.peek ifAddr = v ∧ keepsMemoryBut [s.sp - 1, s.sp - 2, ifAddr] s t := by
  obtain ⟨hif, hpushed⟩ := busRead_busWrites_then hplain (pushedBytes_distinct s s.pc) ifAddr v
  simp only [keepsMemoryBut, State.peek, hbus]
  exact ⟨hpushed (s.sp - 1, hi8 s.pc) (by simp [pushedBytes]),
    hpushed (s.sp - 2, lo8 s.pc) (by simp [pushedBytes]), hif,
    fun addr haddr => busRead_busWrites_other hplain haddr⟩

/-- A cycle that ends with a pending and enabled source ends with the entry of its handler (60_exceptions.md R361). -/
theorem State.afterStep_of_pending {s : State} {src : Source} (henv : s.env = []) (hime : s.ime = true)
    (hsrc : highest s.pendingMask = some src) :
    ∃ o : Output, o.dispatchCycles = s.params.intDispatchCycles ∧
      s.afterStep = (s.readPending.dispatch src (s.peek ifAddr)).setOut o := by
  have hafter := State.afterStep_quiescent henv
  rw [State.interruptCheck_of_pending hime hsrc] at hafter
  exact ⟨_, rfl, hafter⟩

/-- Settles O52: the check at the end of the cycle dispatches, from the state that its two reads leave. -/
theorem pendingInterruptIsTakenAfterStep : Obligations.PendingInterruptIsTakenAfterStep := by
  intro s t src hstep henv hime hsrc
  obtain ⟨o, hcount, hafter⟩ := State.afterStep_of_pending henv hime hsrc
  have hbus : t.afterStep.busState =
      busWrites t.busState
        [(t.sp - 1, hi8 t.pc), (t.sp - 2, lo8 t.pc), (ifAddr, servicedIf src (t.peek ifAddr))] := by
    rw [hafter]
    exact t.readPending.dispatch_busWrites src (t.peek ifAddr)
  refine ⟨t.afterStep, step_of_instrStep hstep, ?pc, ?ime, ?halted, ?sp, hbus,
    fun hplain => stores_of_entryWrites hplain hbus, ?regs, ?f, ?haltbug, ?count⟩
  all_goals rw [hafter]
  case pc => rw [State.setOut_pc, State.dispatch_pc]
  case ime => rw [State.setOut_ime, State.dispatch_ime]
  case halted => rw [State.setOut_halted, State.dispatch_halted]
  case sp => rw [State.setOut_sp, State.dispatch_sp, State.readPending_sp]
  case regs => simp [keepsRegsBut]
  case f => rw [State.setOut_f, State.dispatch_f, State.readPending_f]
  case haltbug => rw [State.setOut_haltbug, State.dispatch_haltbug, State.readPending_haltbug]
  case count => exact hcount

/-! ### A halted core -/

theorem State.setHalted_self {s : State} {v : Bool} (h : s.halted = v) : s.setHalted v = s := by
  subst h; cases s; rfl

/-- The check of a core halted with IME = 0 under `HALT_WAKE_WITHOUT_IME`: it stays halted exactly where nothing is
pending and enabled (92_eei_decisions.md D13). -/
theorem State.interruptCheck_of_halted {s : State} (hhalted : s.halted = true) (hime : s.ime = false)
    (hwake : s.params.haltWakeWithoutIme = true) :
    s.interruptCheck = (0, s.readPending.setHalted (decide (s.pendingMask = 0))) := by
  rw [State.interruptCheck, hime, hwake, hhalted, if_neg Bool.false_ne_true, if_pos (Bool.and_self true)]
  by_cases hmask : s.pendingMask = 0
  · rw [if_pos hmask, decide_eq_true hmask, State.setHalted_self (s := s.readPending) hhalted]
  · rw [if_neg hmask, decide_eq_false hmask]

/-- Settles O60: a halt tick, and then the check, which without `HALT_WAKE_WITHOUT_IME` does nothing. -/
theorem haltedCoreStaysOrWakes : Obligations.HaltedCoreStaysOrWakes := by
  refine ⟨fun s hhung => ?stays, fun s hhalted hime henv hwake => ?wakes⟩
  case stays =>
    obtain ⟨hhalted, hime, henv, hwake⟩ := hhung
    have hafter := State.afterStep_quiescent (s := s.haltTick) henv
    rw [State.interruptCheck_disabled (s := s.haltTick) hime hwake] at hafter
    exact ⟨_, (step_halted hhalted).trans (congrArg Host.Outcome.next hafter), rfl, ⟨hhalted, hime, henv, hwake⟩, rfl⟩
  case wakes =>
    have hafter := State.afterStep_quiescent (s := s.haltTick) henv
    rw [State.interruptCheck_of_halted (s := s.haltTick) hhalted hime hwake] at hafter
    exact ⟨_, (step_halted hhalted).trans (congrArg Host.Outcome.next hafter), rfl, rfl, rfl⟩

end Sys2Proof.Machine
end
